-- ==== Sys2Proof/Word.lean ====
section
/-! DEFINITION. The bit-vector types of GHX32: bytes, 16-bit field patterns, 32-bit register and response
values, 64-bit command words (spec/00_scope.md R8, R10). -/

namespace Sys2Proof

/-- A byte of a buffer, a status register or the command's `b` operand. -/
abbrev Byte := BitVec 8

/-- The raw 16-bit pattern of one telemetry field (10_state.md R20). -/
abbrev Half := BitVec 16

/-- A 32-bit register, CSR value or RSP_DATA value (R8). -/
abbrev Word32 := BitVec 32

/-- A 64-bit command word (30_encoding.md R60). -/
abbrev CmdWord := BitVec 64

end Sys2Proof
end

