-- ==== Sys2Proof/Syntax.lean ====
section
/-! DEFINITION. The 22 commands of GHX32-CMD version 1, one constructor per row of spec/opcode_table.json
(30_encoding.md R63). Operands have the types R62 gives them: a selector is an unsigned index, `P` is a
signed integer, `b` and `h` are bit patterns. -/

namespace Sys2Proof

/-- A command. -/
inductive Instr where
  /-- NOP, 45_control.md R160. -/
  | nop
  /-- CLEAR, 45_control.md R161. -/
  | clear
  /-- CLRSTK, 45_control.md R162. -/
  | clrstk
  /-- SPUSH b, 44_synchronizer.md R143. -/
  | spush (b : Byte)
  /-- SEOF, 44_synchronizer.md R147. -/
  | seof
  /-- SRESTART, 44_synchronizer.md R148. -/
  | srestart
  /-- FCLR, 41_checksum_validator.md R83. -/
  | fclr
  /-- FPUSH b, 41_checksum_validator.md R84. -/
  | fpush (b : Byte)
  /-- DECODE, 41_checksum_validator.md R86. -/
  | decode
  /-- FCOPY, 41_checksum_validator.md R85. -/
  | fcopy
  /-- WSTAT sel, b, 42_extractor_scaler.md R110. -/
  | wstat (sel : Nat) (b : Byte)
  /-- WRAW sel, h, 42_extractor_scaler.md R111. -/
  | wraw (sel : Nat) (h : Half)
  /-- WSCALED sel, P, 42_extractor_scaler.md R112. -/
  | wscaled (sel : Nat) (p : Int)
  /-- ENCODE, 43_encoder.md R131. -/
  | encode
  /-- RDRAW sel, 42_extractor_scaler.md R113. -/
  | rdraw (sel : Nat)
  /-- RDSCALED sel, 42_extractor_scaler.md R114. -/
  | rdscaled (sel : Nat)
  /-- RDSTAT sel, 42_extractor_scaler.md R115. -/
  | rdstat (sel : Nat)
  /-- RDOB sel, 43_encoder.md R132. -/
  | rdob (sel : Nat)
  /-- RDIMG sel, 42_extractor_scaler.md R116. -/
  | rdimg (sel : Nat)
  /-- RDFB sel, 41_checksum_validator.md R87. -/
  | rdfb (sel : Nat)
  /-- RDSB sel, 44_synchronizer.md R149. -/
  | rdsb (sel : Nat)
  /-- RDCSR sel, 45_control.md R163. -/
  | rdcsr (sel : Nat)
  deriving DecidableEq, Repr

end Sys2Proof
end

