-- ==== Sys2Proof/WellFormed.lean ====
section
/-! DEFINITION. Which terms of `Instr` are commands of the hardware: those whose operands fit the command
word's fields (spec/30_encoding.md R60, R62). A selector above its opcode's range but below 256 IS
well-formed: R67 says so, and its effect is BadSelect. -/

namespace Sys2Proof

/-- SEL is 8 bits, read as unsigned 0..255 (R60, R62). -/
def selFits (sel : Nat) : Bool := decide (sel < 256)

/-- `P` lies in -2^31..2^31-1, the values a 32-bit DATA field carries (R62). -/
def scaledFits (p : Int) : Bool := decide (-2147483648 ≤ p ∧ p ≤ 2147483647)

/-- Every operand fits its field. -/
def Instr.wf : Instr → Bool
  | .nop | .clear | .clrstk | .seof | .srestart | .fclr | .decode | .fcopy | .encode => true
  | .spush _ | .fpush _ => true
  | .wstat sel _ => selFits sel
  | .wraw sel _ => selFits sel
  | .wscaled sel p => selFits sel && scaledFits p
  | .rdraw sel => selFits sel
  | .rdscaled sel => selFits sel
  | .rdstat sel => selFits sel
  | .rdob sel => selFits sel
  | .rdimg sel => selFits sel
  | .rdfb sel => selFits sel
  | .rdsb sel => selFits sel
  | .rdcsr sel => selFits sel

end Sys2Proof
end

