-- ==== Sys2Proof/Decode.lean ====
section
/-! DEFINITION. Decoding a 64-bit command word and encoding a command: the format of spec/30_encoding.md
R60, the operands of R62, the opcode map of R63, the classes of R64, the decode procedure of R66. -/

namespace Sys2Proof

/-- The six operand classes of R64. -/
inductive CmdClass where
  | N | B | S | SB | SH | SW
  deriving DecidableEq, Repr

/-- The 22 opcodes, by name (R63). -/
inductive Opcode where
  | nop | clear | clrstk
  | spush | seof | srestart
  | fclr | fpush | decode | fcopy
  | wstat | wraw | wscaled
  | encode
  | rdraw | rdscaled | rdstat | rdob | rdimg | rdfb | rdsb | rdcsr
  deriving DecidableEq, Repr

/-- One row of the opcode map R63; `selMax` is the top of its SEL range (R67), 0 where SEL must be 0. -/
structure OpRow where
  mnemonic : String
  opc : Byte
  cls : CmdClass
  selMax : Nat
  deriving DecidableEq, Repr

/-- The opcode map, row by row (R63, R67). -/
def Opcode.row : Opcode → OpRow
  | .nop      => ⟨"NOP", 0x00, .N, 0⟩
  | .clear    => ⟨"CLEAR", 0x01, .N, 0⟩
  | .clrstk   => ⟨"CLRSTK", 0x02, .N, 0⟩
  | .spush    => ⟨"SPUSH", 0x10, .B, 0⟩
  | .seof     => ⟨"SEOF", 0x11, .N, 0⟩
  | .srestart => ⟨"SRESTART", 0x12, .N, 0⟩
  | .fclr     => ⟨"FCLR", 0x20, .N, 0⟩
  | .fpush    => ⟨"FPUSH", 0x21, .B, 0⟩
  | .decode   => ⟨"DECODE", 0x22, .N, 0⟩
  | .fcopy    => ⟨"FCOPY", 0x23, .N, 0⟩
  | .wstat    => ⟨"WSTAT", 0x30, .SB, 1⟩
  | .wraw     => ⟨"WRAW", 0x31, .SH, 11⟩
  | .wscaled  => ⟨"WSCALED", 0x32, .SW, 11⟩
  | .encode   => ⟨"ENCODE", 0x40, .N, 0⟩
  | .rdraw    => ⟨"RDRAW", 0x50, .S, 11⟩
  | .rdscaled => ⟨"RDSCALED", 0x51, .S, 11⟩
  | .rdstat   => ⟨"RDSTAT", 0x52, .S, 1⟩
  | .rdob     => ⟨"RDOB", 0x53, .S, 31⟩
  | .rdimg    => ⟨"RDIMG", 0x54, .S, 25⟩
  | .rdfb     => ⟨"RDFB", 0x55, .S, 31⟩
  | .rdsb     => ⟨"RDSB", 0x56, .S, 31⟩
  | .rdcsr    => ⟨"RDCSR", 0x57, .S, 12⟩

/-- Every opcode of the map, in the map's order. -/
def Opcode.all : List Opcode :=
  [.nop, .clear, .clrstk, .spush, .seof, .srestart, .fclr, .fpush, .decode, .fcopy] ++
  [.wstat, .wraw, .wscaled, .encode] ++
  [.rdraw, .rdscaled, .rdstat, .rdob, .rdimg, .rdfb, .rdsb, .rdcsr]

/-- The opcode with this OPC byte, or none where the byte is reserved (R68). -/
def lookupOpcode (opc : Byte) : Option Opcode :=
  Opcode.all.find? fun o => o.row.opc == opc

/-! ### Fields of the command word (R60) -/

/-- OPC = w[63:56]. -/
def opcField (w : CmdWord) : Byte := w.extractLsb' 56 8

/-- SEL = w[55:48]. -/
def selField (w : CmdWord) : Byte := w.extractLsb' 48 8

/-- RSV = w[47:32]. -/
def rsvField (w : CmdWord) : BitVec 16 := w.extractLsb' 32 16

/-- DATA = w[31:0]. -/
def dataField (w : CmdWord) : Word32 := w.extractLsb' 0 32

/-- The word with these four fields (R60). -/
def assembleWord (opc sel : Byte) (rsv : BitVec 16) (data : Word32) : CmdWord :=
  opc.setWidth 64 <<< 56 ||| sel.setWidth 64 <<< 48 ||| rsv.setWidth 64 <<< 32 |||
    data.setWidth 64

/-- The bits of DATA a class must leave zero (R64). -/
def CmdClass.dataMask : CmdClass → Word32
  | .N | .S => 0xFFFFFFFF
  | .B | .SB => 0xFFFFFF00
  | .SH => 0xFFFF0000
  | .SW => 0x00000000

/-- The bits of SEL a class must leave zero (R64): all of them, or none. -/
def CmdClass.selMask : CmdClass → Byte
  | .N | .B => 0xFF
  | .S | .SB | .SH | .SW => 0x00

/-- The 64-bit mask of a class (R64): OPC, RSV and every operand bit the class does not use. -/
def CmdClass.mask (c : CmdClass) : CmdWord := assembleWord 0xFF c.selMask 0xFFFF c.dataMask

/-- The match value of an opcode, OPC << 56 (R65). -/
def Opcode.matchValue (o : Opcode) : CmdWord := assembleWord o.row.opc 0 0 0

/-- The operands of a word, assembled for its opcode (R62): `sel = zext(w[55:48])`, `b = w[7:0]`,
`h = w[15:0]`, `P = sint32(w[31:0])`. -/
def Opcode.operands (o : Opcode) (w : CmdWord) : Instr :=
  match o with
  | .nop => .nop
  | .clear => .clear
  | .clrstk => .clrstk
  | .spush => .spush ((dataField w).setWidth 8)
  | .seof => .seof
  | .srestart => .srestart
  | .fclr => .fclr
  | .fpush => .fpush ((dataField w).setWidth 8)
  | .decode => .decode
  | .fcopy => .fcopy
  | .wstat => .wstat (selField w).toNat ((dataField w).setWidth 8)
  | .wraw => .wraw (selField w).toNat ((dataField w).setWidth 16)
  | .wscaled => .wscaled (selField w).toNat (dataField w).toInt
  | .encode => .encode
  | .rdraw => .rdraw (selField w).toNat
  | .rdscaled => .rdscaled (selField w).toNat
  | .rdstat => .rdstat (selField w).toNat
  | .rdob => .rdob (selField w).toNat
  | .rdimg => .rdimg (selField w).toNat
  | .rdfb => .rdfb (selField w).toNat
  | .rdsb => .rdsb (selField w).toNat
  | .rdcsr => .rdcsr (selField w).toNat

/-- Why a word is no command (R68). Both are answered with IllegalCommand. -/
inductive DecodeError where
  /-- The OPC byte is one of the 234 reserved values. -/
  | reservedOpcode (opc : Byte)
  /-- A defined opcode with a must-be-zero bit set. -/
  | mustBeZero (op : Opcode)
  deriving DecidableEq, Repr

/-- What a word decodes to. -/
inductive Decoded where
  | command (i : Instr)
  | illegal (e : DecodeError)
  deriving DecidableEq, Repr

/-- The first two checks of R66, in order, then the operands. The third check, of SEL's range, is an
execution error of a well-formed command (R67) and stands in the meanings (Machine/Operands.lean). -/
def decode (w : CmdWord) : Decoded :=
  match lookupOpcode (opcField w) with
  | none => .illegal (.reservedOpcode (opcField w))
  | some o =>
    if w &&& o.row.cls.mask = o.matchValue then .command (o.operands w)
    else .illegal (.mustBeZero o)

/-! ### The encoder -/

/-- The opcode of a command. -/
def Instr.opcode : Instr → Opcode
  | .nop => .nop
  | .clear => .clear
  | .clrstk => .clrstk
  | .spush _ => .spush
  | .seof => .seof
  | .srestart => .srestart
  | .fclr => .fclr
  | .fpush _ => .fpush
  | .decode => .decode
  | .fcopy => .fcopy
  | .wstat _ _ => .wstat
  | .wraw _ _ => .wraw
  | .wscaled _ _ => .wscaled
  | .encode => .encode
  | .rdraw _ => .rdraw
  | .rdscaled _ => .rdscaled
  | .rdstat _ => .rdstat
  | .rdob _ => .rdob
  | .rdimg _ => .rdimg
  | .rdfb _ => .rdfb
  | .rdsb _ => .rdsb
  | .rdcsr _ => .rdcsr

/-- The SEL operand of a command, 0 where its class has none (R64). -/
def Instr.selOperand : Instr → Nat
  | .nop | .clear | .clrstk | .seof | .srestart | .fclr | .decode | .fcopy | .encode => 0
  | .spush _ | .fpush _ => 0
  | .wstat sel _ => sel
  | .wraw sel _ => sel
  | .wscaled sel _ => sel
  | .rdraw sel => sel
  | .rdscaled sel => sel
  | .rdstat sel => sel
  | .rdob sel => sel
  | .rdimg sel => sel
  | .rdfb sel => sel
  | .rdsb sel => sel
  | .rdcsr sel => sel

/-- The DATA operand of a command, 0 in every bit its class does not use (R64). -/
def Instr.dataOperand : Instr → Word32
  | .nop | .clear | .clrstk | .seof | .srestart | .fclr | .decode | .fcopy | .encode => 0
  | .spush b => b.setWidth 32
  | .fpush b => b.setWidth 32
  | .wstat _ b => b.setWidth 32
  | .wraw _ h => h.setWidth 32
  | .wscaled _ p => BitVec.ofInt 32 p
  | .rdraw _ | .rdscaled _ | .rdstat _ | .rdob _ | .rdimg _ | .rdfb _ | .rdsb _ | .rdcsr _ => 0

/-- The command word of a well-formed command (R60, R64). -/
def encode (i : Instr) : CmdWord :=
  assembleWord i.opcode.row.opc (BitVec.ofNat 8 i.selOperand) 0 i.dataOperand

/-! ### The opcode table's words -/

/-- The command word whose low `nbits` bits are `w` and whose other bits are 0. The opcode table numbers
the bits of its one 64-bit word as R60 does, and the command port carries the word in parallel, so no
byte order enters (20_memory.md R44). -/
def tableWord (nbits w : Nat) : CmdWord := BitVec.ofNat 64 (w % 2 ^ nbits)

/-- The instruction the decoder reads from a table word, none where it is illegal. -/
def decodeTableWord (nbits w : Nat) : Option Instr :=
  match decode (tableWord nbits w) with
  | .command i => some i
  | .illegal _ => none

end Sys2Proof
end

