-- ==== Sys2Proof/Config.lean ====
section
/-! DEFINITION. What is fixed for the hardware and is no state (spec/00_scope.md R7, R8). The spec leaves
one parameter open, the number NINST of instances (R9), which Machine/Platform.lean takes as an argument;
it leaves no value of any command's result open, so there is no free value here. -/

namespace Sys2Proof.Config

/-- The hard-wired CSR 12, VERSION: GHX32-CMD version 1 (10_state.md R31, R34; 92_eei_decisions.md D39). -/
def version : Word32 := 0x00000001

end Sys2Proof.Config
end

