-- ==== Sys2Proof/Machine/State.lean ====
section
/-! DEFINITION. The state of one GHX32 instance: every element of spec/10_state.md R20 to R29, the response
port, and what the host does next at the ports. VERSION is a constant (Config.version). -/

namespace Sys2Proof.Machine

/-- A 32-byte buffer: FB, OB or SB (10_state.md R23 to R25). -/
abbrev Buf := Vector Byte 32

/-- The result codes of 60_exceptions.md R180, the only values RSP_CODE takes (93 I6). -/
inductive ResultCode where
  | ok
  | truncatedFrame
  | syncMismatch
  | terminatorMismatch
  | checksumMismatch
  | illegalCommand
  | badSelect
  | fieldOutOfRange
  | streamEnded
  deriving DecidableEq, Repr

/-- The last evaluated window, the content of LSEVT (10_state.md R28): its KIND, and RESYNC, which only an
accept can carry. Its word is `SyncEvent.word` in Machine/Flags.lean. -/
inductive SyncEvent where
  /-- KIND 0: no window since SRESTART, CLEAR or reset. -/
  | noWindow
  /-- KIND 1. -/
  | accepted (resync : Bool)
  /-- KIND 2, rejected with TerminatorMismatch. -/
  | rejectedTerminator
  /-- KIND 3, rejected with ChecksumMismatch. -/
  | rejectedChecksum
  deriving DecidableEq, Repr

/-- What the host does at the block's inputs (70_reset_and_hazards.md R200, R206). -/
inductive HostEvent where
  /-- Issues a command word, legal or not. -/
  | command (w : CmdWord)
  /-- Asserts the reset input. -/
  | resetAsserted
  /-- Releases the reset input. -/
  | resetReleased
  deriving DecidableEq, Repr

/-- One GHX32 instance and its pending inputs. -/
structure State where
  /-- STAT[0..1] (R20). -/
  stat : Vector Byte 2
  /-- RAW[0..11] (R20). -/
  raw : Vector Half 12
  /-- VALID (R20, R22). -/
  valid : Bool
  /-- FB[0..31] (R23). -/
  fb : Buf
  /-- FB_LEN, 0..33 (R23). -/
  fbLen : Nat
  /-- OB[0..31] (R24). -/
  ob : Buf
  /-- SB[0..31] (R25). -/
  sb : Buf
  /-- SB_LEN, 0..32 (R25). -/
  sbLen : Nat
  /-- SPOS (R26). -/
  spos : Word32
  /-- EOF (R26). -/
  eof : Bool
  /-- DISC (R26). -/
  disc : Word32
  /-- NFRM (R27). -/
  nfrm : Word32
  /-- NREJ (R27). -/
  nrej : Word32
  /-- NRSY (R27). -/
  nrsy : Word32
  /-- LSEVT (R28). -/
  lsevt : SyncEvent
  /-- LSOFF (R28). -/
  lsoff : Word32
  /-- LDISC (R28). -/
  ldisc : Word32
  /-- RSP_CODE (R29). -/
  rspCode : ResultCode
  /-- RSP_DATA (R29). -/
  rspData : Word32
  /-- STICKY (R29). -/
  sticky : BitVec 9
  /-- The level of the reset input (70 R200). The model's own field: log entry 2. -/
  resetHeld : Bool
  /-- What the host does next at the inputs, oldest first. The model's own field: log entry 1. -/
  pending : List HostEvent
  deriving DecidableEq, Repr

/-- The reasons a step can stop with a fault: there is none. No error of GHX32 traps or stops the block
(60_exceptions.md R181, R184), and no behaviour is stuck (93_implementation_defined.md section 1). Safe:
nothing raises it. -/
inductive Fault where
  deriving DecidableEq, Repr

/-- The reasons a step can be refused. -/
inductive Refusal where
  /-- Raised by the dispatch for an instruction without a meaning; every instruction has one, so nothing
  raises it. Safe. -/
  | notModelled (mnemonic : String)
  deriving DecidableEq, Repr

/-- The machine right after reset (10_state.md R34): every element of the spec at its stated reset value,
the reset input released and nothing pending (log entries 1 and 2). -/
def State.reset : State where
  stat := Vector.replicate 2 0
  raw := Vector.replicate 12 0
  valid := false
  fb := Vector.replicate 32 0
  fbLen := 0
  ob := Vector.replicate 32 0
  sb := Vector.replicate 32 0
  sbLen := 0
  spos := 0
  eof := false
  disc := 0
  nfrm := 0
  nrej := 0
  nrsy := 0
  lsevt := .noWindow
  lsoff := 0
  ldisc := 0
  rspCode := .ok
  rspData := 0
  sticky := 0
  resetHeld := false
  pending := []

end Sys2Proof.Machine
end

