-- ==== Sys2Proof/Machine/Flags.lean ====
section
/-! DEFINITION. The only flags of GHX32 (spec/10_state.md R29): VALID, EOF, the STICKY bits and
LSEVT.RESYNC; and the numbers of the result codes and of the event word. -/

namespace Sys2Proof.Machine

/-- The number of a result code (60_exceptions.md R180). -/
def ResultCode.num : ResultCode → Nat
  | .ok => 0
  | .truncatedFrame => 1
  | .syncMismatch => 2
  | .terminatorMismatch => 3
  | .checksumMismatch => 4
  | .illegalCommand => 5
  | .badSelect => 6
  | .fieldOutOfRange => 7
  | .streamEnded => 8

/-- RSP_CODE as the host reads it, 8 bits (10_state.md R29). -/
def ResultCode.byte (c : ResultCode) : Byte := BitVec.ofNat 8 c.num

/-- `if code != OK: STICKY[code] <- 1` (60_exceptions.md R182). -/
def stickyAfter (code : ResultCode) (mask : BitVec 9) : BitVec 9 :=
  if code = .ok then mask else mask ||| BitVec.twoPow 9 code.num

/-- STICKY as CSR 0 reads it: the 9-bit mask zero-extended, bit 0 hard-wired to 0 (10_state.md R29, R31,
R32). -/
def stickyCsr (mask : BitVec 9) : Word32 := (mask &&& 0b111111110#9).setWidth 32

/-- A flag as a bit. -/
def flagBit (b : Bool) : BitVec 1 := BitVec.ofBool b

/-- The KIND field of LSEVT, bits [1:0] (10_state.md R28). -/
def SyncEvent.kind : SyncEvent → BitVec 2
  | .noWindow => 0
  | .accepted _ => 1
  | .rejectedTerminator => 2
  | .rejectedChecksum => 3

/-- The RESYNC flag of LSEVT, bit [4]: 1 only with KIND = ACCEPT (10_state.md R28). -/
def SyncEvent.resync : SyncEvent → Bool
  | .accepted rs => rs
  | .noWindow | .rejectedTerminator | .rejectedChecksum => false

/-- LSEVT as a 32-bit word; bits [3:2] and [31:5] are 0 (10_state.md R28, R31). -/
def SyncEvent.word (e : SyncEvent) : Word32 :=
  (flagBit e.resync).setWidth 32 <<< 4 ||| e.kind.setWidth 32

/-- An accept is a resync event exactly when DISC ≠ 0 at the time of the accept (44_synchronizer.md R144). -/
def isResync (disc : Word32) : Bool := decide (disc ≠ 0)

/-- `LSEVT <- 2 if r == TerminatorMismatch else 3` (44_synchronizer.md R146). -/
def rejectEvent (r : ResultCode) : SyncEvent :=
  if r = .terminatorMismatch then .rejectedTerminator else .rejectedChecksum

/-- `VALID <- v` (10_state.md R22). -/
def State.setValid (v : Bool) (s : State) : State := { s with valid := v }

/-- `EOF <- v` (10_state.md R26). -/
def State.setEof (v : Bool) (s : State) : State := { s with eof := v }

/-- `STICKY <- 0` (45_control.md R162). -/
def State.clearSticky (s : State) : State := { s with sticky := 0 }

end Sys2Proof.Machine
end

