-- ==== Sys2Proof/Machine/Ops.lean ====
section
/-! DEFINITION. The named operations over the registers and buffers (spec/00_scope.md R12): ending a command
and raising an error, writing the record, FB, OB and SB, and reset.

RAISING AN ERROR is `raise`, the one shared operation for it. GHX32 has no trap entry and no return from one
(60_exceptions.md R184, R186): an error is the result code of the command that met it. -/

namespace Sys2Proof.Machine

/-- What a command answers. -/
abbrev Result := Host.Outcome State Fault Refusal

/-! ### Buffers -/

/-- 32 zero bytes. -/
def Buf.zero : Buf := Vector.replicate 32 0

/-- `B[k] <- b`; nothing where `k` is no position of the buffer (log entry 8). -/
def Buf.store (v : Buf) (k : Nat) (b : Byte) : Buf := v.setIfInBounds k b

/-- Positions 1..31 moved down by one, position 31 zero: the buffer part of `drop1` (R12). -/
def Buf.shiftDown (v : Buf) : Buf :=
  Vector.ofFn fun k => if h : k.val + 1 < 32 then v[k.val + 1] else 0

/-! ### Ending a command -/

/-- Writes the response port and the sticky mask (60_exceptions.md R182). -/
def State.respond (code : ResultCode) (data : Word32) (s : State) : State :=
  { s with rspCode := code, rspData := data, sticky := stickyAfter code s.sticky }

/-- `finish(code, data)` of every command but SPUSH: the data of a failing command is 0 (R182). -/
def State.finish (code : ResultCode) (data : Word32) (s : State) : State :=
  s.respond code (if code = .ok then data else 0)

/-- `finish(code, data)` of SPUSH, which keeps its data with every code (R182). -/
def State.finishSpush (code : ResultCode) (data : Word32) (s : State) : State :=
  s.respond code data

/-- `raise E` is `finish(E, 0)` (00_scope.md R12). -/
def State.raise (e : ResultCode) (s : State) : State := s.finish e 0

/-! ### Record registers (10_state.md R20) -/

/-- `STAT[j] <- b`. -/
def State.setStat (j : Fin 2) (b : Byte) (s : State) : State := { s with stat := s.stat.set j b }

/-- `RAW[i] <- h`. -/
def State.setRaw (i : Fin 12) (h : Half) (s : State) : State := { s with raw := s.raw.set i h }

/-- STAT and RAW written whole. -/
def State.setRecord (stat : Vector Byte 2) (raw : Vector Half 12) (s : State) : State :=
  { s with stat := stat, raw := raw }

/-! ### Frame buffer and output buffer (10_state.md R23, R24) -/

/-- FB and FB_LEN written. -/
def State.setFb (v : Buf) (n : Nat) (s : State) : State := { s with fb := v, fbLen := n }

/-- One byte appended to FB; the 33rd and later ones only make FB_LEN 33 (41_checksum_validator.md R84). -/
def State.pushFb (b : Byte) (s : State) : State :=
  if s.fbLen < 32 then s.setFb (s.fb.store s.fbLen b) (s.fbLen + 1) else s.setFb s.fb 33

/-- OB written whole. -/
def State.setOb (v : Buf) (s : State) : State := { s with ob := v }

/-! ### Sync buffer and synchronizer registers (10_state.md R25 to R28) -/

/-- SB and SB_LEN written. -/
def State.setSb (v : Buf) (n : Nat) (s : State) : State := { s with sb := v, sbLen := n }

/-- `append(SB, b)` (00_scope.md R12). -/
def State.appendSb (b : Byte) (s : State) : State := s.setSb (s.sb.store s.sbLen b) (s.sbLen + 1)

/-- `drop1(SB)` (00_scope.md R12). -/
def State.dropSb (s : State) : State := s.setSb s.sb.shiftDown (s.sbLen - 1)

/-- SB zeroed and SB_LEN 0. -/
def State.clearSb (s : State) : State := s.setSb Buf.zero 0

/-- `SPOS <- trunc_32(SPOS + 1)` (44_synchronizer.md R143). -/
def State.countPush (s : State) : State := { s with spos := s.spos + 1 }

/-- `DISC <- trunc_32(DISC + n)` (44_synchronizer.md R142, R147). -/
def State.addDisc (n : Nat) (s : State) : State := { s with disc := s.disc + BitVec.ofNat 32 n }

/-- `drop1(SB); DISC <- trunc_32(DISC + 1)`: one byte given up (44_synchronizer.md R142). -/
def State.discard (s : State) : State := s.dropSb.addDisc 1

/-- The stream offset of SB[0], `trunc_32(SPOS - SB_LEN)` (10_state.md R26). -/
def State.streamBase (s : State) : Word32 := s.spos - BitVec.ofNat 32 s.sbLen

/-- All synchronizer state at its reset value (44_synchronizer.md R148). -/
def State.restartSync (s : State) : State :=
  { s with
    sb := Buf.zero, sbLen := 0, spos := 0, eof := false, disc := 0,
    nfrm := 0, nrej := 0, nrsy := 0,
    lsevt := .noWindow, lsoff := 0, ldisc := 0 }

/-! ### Reset -/

/-- Every element of the spec at its reset value (10_state.md R34, 45_control.md R161); the host's side,
which is none of them, is kept. -/
def State.resetElements (s : State) : State :=
  { State.reset with resetHeld := s.resetHeld, pending := s.pending }

/-- The level of the reset input. -/
def State.setResetHeld (held : Bool) (s : State) : State := { s with resetHeld := held }

/-- The host's remaining inputs. -/
def State.setPending (rest : List HostEvent) (s : State) : State := { s with pending := rest }

end Sys2Proof.Machine
end

