-- ==== Sys2Proof/Machine/Operands.lean ====
section
/-! DEFINITION. Operand forms: the range check of a selector (spec/30_encoding.md R66, R67), the extension of
values read into RSP_DATA (00_scope.md R11, 20_memory.md R47), and the CSR values (10_state.md R31, R32). -/

namespace Sys2Proof.Machine

/-- The last common check of R66: a selector outside the `n` indices of the opcode's space raises BadSelect;
inside, the command's own rule runs at that index. -/
def withSelect (n sel : Nat) (rule : Fin n → State → State) (s : State) : State :=
  if h : sel < n then rule ⟨sel, h⟩ s else s.raise .badSelect

/-- `zext_32` of a byte. -/
def zextByte (b : Byte) : Word32 := b.setWidth 32

/-- `zext_32` of a 16-bit pattern. -/
def zextHalf (h : Half) : Word32 := h.setWidth 32

/-- `zext_32` of a small count. -/
def zextCount (n : Nat) : Word32 := BitVec.ofNat 32 n

/-- `trunc_32` of an integer (R11). -/
def trunc32 (x : Int) : Word32 := BitVec.ofInt 32 x

/-- `trunc_16` of an integer (R11). -/
def trunc16 (x : Int) : Half := BitVec.ofInt 16 x

/-- SYNCST = {zeros, EOF, 00, SB_LEN[5:0]} (10_state.md R32). -/
def State.syncst (s : State) : Word32 :=
  (flagBit s.eof).setWidth 32 <<< 8 ||| (BitVec.ofNat 6 s.sbLen).setWidth 32

/-- FBST: FB_LEN in bits [5:0], the rest hard-wired to 0 (R31, R32). -/
def State.fbst (s : State) : Word32 := (BitVec.ofNat 6 s.fbLen).setWidth 32

/-- RECST: VALID in bit 0, the rest hard-wired to 0 (R31, R32). -/
def State.recst (s : State) : Word32 := (flagBit s.valid).setWidth 32

/-- `CSR(sel)`, computed from the current state (10_state.md R31, R32). -/
def State.csr (s : State) (k : Fin 13) : Word32 :=
  match k with
  | 0 => stickyCsr s.sticky
  | 1 => s.syncst
  | 2 => s.spos
  | 3 => s.disc
  | 4 => s.nfrm
  | 5 => s.nrej
  | 6 => s.nrsy
  | 7 => s.lsevt.word
  | 8 => s.lsoff
  | 9 => s.ldisc
  | 10 => s.fbst
  | 11 => s.recst
  | 12 => Config.version

end Sys2Proof.Machine
end

