-- ==== Sys2Proof/Machine/Control.lean ====
section
/-! DEFINITION. The control commands (spec/45_control.md R160 to R163). -/

namespace Sys2Proof.Machine

/-- NOP (R160). -/
def execNop (s : State) : Result := .next (s.finish .ok 0)

/-- CLEAR (R161): every state element at its reset value, then the response. -/
def execClear (s : State) : Result := .next (s.resetElements.finish .ok 0)

/-- CLRSTK (R162). -/
def execClrstk (s : State) : Result := .next (s.clearSticky.finish .ok 0)

/-- RDCSR sel (R163): the value before this command's own finish. -/
def execRdcsr (sel : Nat) (s : State) : Result :=
  .next (withSelect 13 sel (fun k s => s.finish .ok (s.csr k)) s)

end Sys2Proof.Machine
end

