-- ==== Sys2Proof/Machine/Frame.lean ====
section
/-! DEFINITION. The wire frame (spec/20_memory.md R40 to R43): its checksum and validation
(41_checksum_validator.md R80, R81), extraction into the record and the little-endian image
(42_extractor_scaler.md R102, R103), and its construction (43_encoder.md R130). -/

namespace Sys2Proof.Machine

/-- SYNC0 and SYNC1, bytes 0 and 1 of a frame (00_scope.md R7). -/
def sync0 : Byte := 0x5A

/-- SYNC1 (R7). -/
def sync1 : Byte := 0xA5

/-- LEN_BYTE (R7): written by the encoder, not checked by the decoder (20_memory.md R42). -/
def lenByte : Byte := 0x1A

/-- ID_BYTE (R7): written by the encoder, not checked by the decoder (R42). -/
def idByte : Byte := 0x01

/-- TERM, byte 31 (R7). -/
def termByte : Byte := 0xAA

/-- The sum of bytes 0..29, read as unsigned values, modulo 256 (R80). -/
def csum (f : Buf) : Byte := BitVec.ofNat 8 ((f.toList.take 30).map BitVec.toNat).sum

/-- The four checks, in order (R81): the first that fails gives the code. -/
def validate (f : Buf) (n : Nat) : ResultCode :=
  if n ≠ 32 then .truncatedFrame
  else if f[0] ≠ sync0 ∨ f[1] ≠ sync1 then .syncMismatch
  else if f[31] ≠ termByte then .terminatorMismatch
  else if f[30] ≠ csum f then .checksumMismatch
  else .ok

/-- A big-endian field: the byte at the lower offset is the more significant (20_memory.md R43). -/
def beHalf (high low : Byte) : Half := high.setWidth 16 <<< 8 ||| low.setWidth 16

/-- Bits [15:8] of a field. -/
def highByte (h : Half) : Byte := h.extractLsb' 8 8

/-- Bits [7:0] of a field. -/
def lowByte (h : Half) : Byte := h.extractLsb' 0 8

/-- The status bytes of a frame (R102). -/
def frameStat (f : Buf) : Vector Byte 2 := #v[f[4], f[5]]

/-- The twelve fields of a frame: field `i` at offsets `6 + 2i` and `7 + 2i` (R100, R102). -/
def frameRaw (f : Buf) : Vector Half 12 :=
  Vector.ofFn fun i => beHalf (f[6 + 2 * i.val]'(by omega)) (f[7 + 2 * i.val]'(by omega))

/-- `extract(F)` (R102): STAT and RAW from the frame; bytes 0 to 3, 30 and 31 are not stored. -/
def State.extract (f : Buf) (s : State) : State := s.setRecord (frameStat f) (frameRaw f)

/-- Byte `k` of the little-endian record image (R103, 10_state.md R33). -/
def imgByte (stat : Vector Byte 2) (raw : Vector Half 12) (k : Fin 26) : Byte :=
  if k.val = 0 then stat[0]
  else if k.val = 1 then stat[1]
  else
    let h := raw[(k.val - 2) / 2]'(by omega)
    if k.val % 2 = 0 then lowByte h else highByte h

/-- Bytes 0 to 29 of the wire frame of a record (R130), and 0 at positions 30 and 31. -/
def bodyByte (stat : Vector Byte 2) (raw : Vector Half 12) (k : Fin 32) : Byte :=
  if k.val = 0 then sync0
  else if k.val = 1 then sync1
  else if k.val = 2 then lenByte
  else if k.val = 3 then idByte
  else if k.val = 4 then stat[0]
  else if k.val = 5 then stat[1]
  else if h : k.val < 30 then
    let field := raw[(k.val - 6) / 2]'(by omega)
    if k.val % 2 = 0 then highByte field else lowByte field
  else 0

/-- The frame before its checksum and terminator are written (R130). -/
def frameBody (stat : Vector Byte 2) (raw : Vector Half 12) : Buf := Vector.ofFn (bodyByte stat raw)

/-- `frame(STAT, RAW)` (R130): the body, then the checksum of bytes 0..29, then the terminator. -/
def frame (stat : Vector Byte 2) (raw : Vector Half 12) : Buf :=
  ((frameBody stat raw).set 30 (csum (frameBody stat raw))).set 31 termByte

end Sys2Proof.Machine
end

