-- ==== Sys2Proof/Machine/Decoder.lean ====
section
/-! DEFINITION. The checksum validator and frame decoder's commands (spec/41_checksum_validator.md R83 to
R87). -/

namespace Sys2Proof.Machine

/-- FCLR (R83). -/
def execFclr (s : State) : Result := .next ((s.setFb Buf.zero 0).finish .ok 0)

/-- FPUSH b (R84): the response is the new FB_LEN. -/
def execFpush (b : Byte) (s : State) : Result :=
  let t := s.pushFb b
  .next (t.finish .ok (zextCount t.fbLen))

/-- FCOPY (R85). -/
def execFcopy (s : State) : Result := .next ((s.setFb s.ob 32).finish .ok 0)

/-- DECODE (R86). On failure VALID is cleared and the record kept. -/
def execDecode (s : State) : Result :=
  let r := validate s.fb s.fbLen
  .next (if r = .ok then ((s.extract s.fb).setValid true).finish .ok 0
    else (s.setValid false).raise r)

/-- RDFB sel (R87). -/
def execRdfb (sel : Nat) (s : State) : Result :=
  .next (withSelect 32 sel (fun k s => s.finish .ok (zextByte s.fb[k])) s)

end Sys2Proof.Machine
end

