-- ==== Sys2Proof/Machine/Encoder.lean ====
section
/-! DEFINITION. The frame encoder's commands (spec/43_encoder.md R131, R132). -/

namespace Sys2Proof.Machine

/-- ENCODE (R131): VALID is neither read nor written; the response is the checksum byte. -/
def execEncode (s : State) : Result :=
  let f := frame s.stat s.raw
  .next ((s.setOb f).finish .ok (zextByte f[30]))

/-- RDOB sel (R132). -/
def execRdob (sel : Nat) (s : State) : Result :=
  .next (withSelect 32 sel (fun k s => s.finish .ok (zextByte s.ob[k])) s)

end Sys2Proof.Machine
end

