-- ==== Sys2Proof/Machine/Scaler.lean ====
section
/-! DEFINITION. The field table and the exact fixed-point scaler and unscaler
(spec/42_extractor_scaler.md R100, R101, R104 to R106, R109). -/

namespace Sys2Proof.Machine

/-- One row of the field table R100: assembler name, wire offset, signedness, multiplier and denominator. -/
structure FieldRow where
  name : String
  offset : Nat
  unsigned : Bool
  mult : Nat
  denom : Nat
  deriving DecidableEq, Repr

/-- The field table, in wire order (R100). -/
def fieldTable : Vector FieldRow 12 := #v[
  ⟨"HEADING", 6, true, 180, 32768⟩,
  ⟨"ROLL", 8, false, 90, 32768⟩,
  ⟨"PITCH", 10, false, 90, 32768⟩,
  ⟨"HRATE", 12, true, 1, 32768⟩,
  ⟨"RRATE", 14, false, 1, 32768⟩,
  ⟨"PRATE", 16, false, 1, 32768⟩,
  ⟨"VN", 18, false, 2, 1000⟩,
  ⟨"VE", 20, false, 2, 1000⟩,
  ⟨"VD", 22, false, 2, 1000⟩,
  ⟨"AN", 24, false, 1, 100⟩,
  ⟨"AE", 26, false, 1, 100⟩,
  ⟨"AD", 28, false, 1, 100⟩]

/-- `N(i)` (R100). -/
def fieldMult (i : Fin 12) : Nat := fieldTable[i].mult

/-- `D(i)` (R100). -/
def fieldDenom (i : Fin 12) : Nat := fieldTable[i].denom

/-- `unsigned(i)` (R100). -/
def fieldUnsigned (i : Fin 12) : Bool := fieldTable[i].unsigned

/-- `ext(i, h)` (R101): the integer a raw pattern stands for. -/
def ext (i : Fin 12) (h : Half) : Int := if fieldUnsigned i then h.toNat else h.toInt

/-- `lo(i)` (R101). -/
def rawLo (i : Fin 12) : Int := if fieldUnsigned i then 0 else -32768

/-- `hi(i)` (R101). -/
def rawHi (i : Fin 12) : Int := if fieldUnsigned i then 65535 else 32767

/-- `scale(i, h) = ext(i, h) * N(i)`, an exact integer product (R104). -/
def scale (i : Fin 12) (h : Half) : Int := ext i h * fieldMult i

/-- `rne(p / n)` (R105) for an integer `p` and a positive integer `n`: with `f = floor(p / n)` and the
remainder `r = p - f n`, the comparison of the fraction `r / n` with 1/2 is that of `2 r` with `n`. -/
def rneDiv (p : Int) (n : Nat) : Int :=
  let f := p / (n : Int)
  let r := p - f * n
  if 2 * r < n then f
  else if 2 * r > n then f + 1
  else if f % 2 = 0 then f
  else f + 1

/-- `unscale(i, P)` (R106): the raw pattern, or none for FieldOutOfRange. -/
def unscale (i : Fin 12) (p : Int) : Option Half :=
  let raw := rneDiv p (fieldMult i)
  if raw < rawLo i ∨ raw > rawHi i then none else some (trunc16 raw)

/-- The exact pair `(P, D(i))` by which a physical value leaves the block: the value is `P / D(i)` (R109). -/
def physicalPair (i : Fin 12) (h : Half) : Int × Nat := (scale i h, fieldDenom i)

end Sys2Proof.Machine
end

