-- ==== Sys2Proof/Machine/Record.lean ====
section
/-! DEFINITION. The record, converter, scaler and unscaler commands (spec/42_extractor_scaler.md R110 to
R116). -/

namespace Sys2Proof.Machine

/-- WSTAT sel, b (R110). -/
def execWstat (sel : Nat) (b : Byte) (s : State) : Result :=
  .next (withSelect 2 sel (fun j s => ((s.setStat j b).setValid false).finish .ok 0) s)

/-- WRAW sel, h (R111). -/
def execWraw (sel : Nat) (h : Half) (s : State) : Result :=
  .next (withSelect 12 sel (fun i s => ((s.setRaw i h).setValid false).finish .ok 0) s)

/-- The rule of WSCALED at a field (R112). -/
def State.writeScaled (p : Int) (i : Fin 12) (s : State) : State :=
  match unscale i p with
  | none => s.raise .fieldOutOfRange
  | some u => ((s.setRaw i u).setValid false).finish .ok (zextHalf u)

/-- WSCALED sel, P (R112). -/
def execWscaled (sel : Nat) (p : Int) (s : State) : Result :=
  .next (withSelect 12 sel (State.writeScaled p) s)

/-- RDRAW sel (R113). -/
def execRdraw (sel : Nat) (s : State) : Result :=
  .next (withSelect 12 sel (fun i s => s.finish .ok (trunc32 (ext i s.raw[i]))) s)

/-- RDSCALED sel (R114). -/
def execRdscaled (sel : Nat) (s : State) : Result :=
  .next (withSelect 12 sel (fun i s => s.finish .ok (trunc32 (scale i s.raw[i]))) s)

/-- RDSTAT sel (R115). -/
def execRdstat (sel : Nat) (s : State) : Result :=
  .next (withSelect 2 sel (fun j s => s.finish .ok (zextByte s.stat[j])) s)

/-- RDIMG sel (R116). -/
def execRdimg (sel : Nat) (s : State) : Result :=
  .next (withSelect 26 sel (fun k s => s.finish .ok (zextByte (imgByte s.stat s.raw k))) s)

end Sys2Proof.Machine
end

