-- ==== Sys2Proof/Machine/Sync.lean ====
section
/-! DEFINITION. The synchronizer's inner procedures (spec/44_synchronizer.md R142, R145, R146). -/

namespace Sys2Proof.Machine

/-- `accept(base)` (R145). -/
def State.accept (base : Word32) (s : State) : State :=
  let rs := isResync s.disc
  let t := (s.extract s.sb).setValid true
  { t with
    nfrm := s.nfrm + 1
    nrsy := if rs then s.nrsy + 1 else s.nrsy
    ldisc := if rs then s.disc else s.ldisc
    lsevt := .accepted rs
    lsoff := base
    disc := 0
    sb := Buf.zero
    sbLen := 0 }

/-- `reject(base, r)` (R146). The record and VALID are not changed. -/
def State.reject (base : Word32) (r : ResultCode) (s : State) : State :=
  { s with nrej := s.nrej + 1, lsevt := rejectEvent r, lsoff := base }

/-- What `settle()` returns beside the state: the code and the event word. -/
structure Settled where
  state : State
  code : ResultCode
  evt : Word32
  deriving DecidableEq, Repr

/-- The loop of `settle()` on `fuel` passes, with its variables `code` and `evt` (R142). -/
def settleLoop : Nat → State → ResultCode → Word32 → Settled
  | 0, s, code, evt => ⟨s, code, evt⟩
  | fuel + 1, s, code, evt =>
    if 1 ≤ s.sbLen ∧ s.sb[0] ≠ sync0 then settleLoop fuel s.discard code evt
    else if 2 ≤ s.sbLen ∧ s.sb[1] ≠ sync1 then settleLoop fuel s.discard code evt
    else if s.sbLen = 32 then
      let r := validate s.sb 32
      if r = .ok then
        let t := s.accept s.streamBase
        ⟨t, code, t.lsevt.word⟩
      else
        let t := s.reject s.streamBase r
        settleLoop fuel t.discard r t.lsevt.word
    else ⟨s, code, evt⟩

/-- `settle()`: at most 33 passes, since each but the last removes a byte (R142; log entry 9). -/
def State.settle (s : State) : Settled := settleLoop 33 s .ok 0

end Sys2Proof.Machine
end

