-- ==== Sys2Proof/Machine/Synchronizer.lean ====
section
/-! DEFINITION. The stream synchronizer's commands (spec/44_synchronizer.md R143, R147 to R149). -/

namespace Sys2Proof.Machine

/-- The rule of SPUSH while EOF is 0: append the byte, count it, settle, respond (R143). -/
def State.pushStreamByte (b : Byte) (s : State) : State :=
  let r := ((s.appendSb b).countPush).settle
  r.state.finishSpush r.code r.evt

/-- SPUSH b (R143): refused with StreamEnded after SEOF. -/
def execSpush (b : Byte) (s : State) : Result :=
  .next (if s.eof then s.raise .streamEnded else s.pushStreamByte b)

/-- SEOF (R147): idempotent; otherwise drops the buffered bytes into DISC and sets EOF. -/
def execSeof (s : State) : Result :=
  .next (if s.eof then s.finish .ok 0
    else (((s.addDisc s.sbLen).clearSb).setEof true).finish .ok (zextCount s.sbLen))

/-- SRESTART (R148). -/
def execSrestart (s : State) : Result := .next (s.restartSync.finish .ok 0)

/-- RDSB sel (R149). -/
def execRdsb (sel : Nat) (s : State) : Result :=
  .next (withSelect 32 sel (fun k s => s.finish .ok (zextByte s.sb[k])) s)

end Sys2Proof.Machine
end

