-- ==== Sys2Proof/Machine/Dispatch.lean ====
section
/-! DEFINITION. The meaning of every command, one arm each, in the order of spec/opcode_table.json. -/

namespace Sys2Proof.Machine

def exec (i : Instr) (s : State) : Host.Outcome State Fault Refusal :=
  match i with
  | .nop => Sys2Proof.Machine.execNop s
  | .clear => Sys2Proof.Machine.execClear s
  | .clrstk => Sys2Proof.Machine.execClrstk s
  | .spush b => Sys2Proof.Machine.execSpush b s
  | .seof => Sys2Proof.Machine.execSeof s
  | .srestart => Sys2Proof.Machine.execSrestart s
  | .fclr => Sys2Proof.Machine.execFclr s
  | .fpush b => Sys2Proof.Machine.execFpush b s
  | .decode => Sys2Proof.Machine.execDecode s
  | .fcopy => Sys2Proof.Machine.execFcopy s
  | .wstat sel b => Sys2Proof.Machine.execWstat sel b s
  | .wraw sel h => Sys2Proof.Machine.execWraw sel h s
  | .wscaled sel p => Sys2Proof.Machine.execWscaled sel p s
  | .encode => Sys2Proof.Machine.execEncode s
  | .rdraw sel => Sys2Proof.Machine.execRdraw sel s
  | .rdscaled sel => Sys2Proof.Machine.execRdscaled sel s
  | .rdstat sel => Sys2Proof.Machine.execRdstat sel s
  | .rdob sel => Sys2Proof.Machine.execRdob sel s
  | .rdimg sel => Sys2Proof.Machine.execRdimg sel s
  | .rdfb sel => Sys2Proof.Machine.execRdfb sel s
  | .rdsb sel => Sys2Proof.Machine.execRdsb sel s
  | .rdcsr sel => Sys2Proof.Machine.execRdcsr sel s

end Sys2Proof.Machine
end

