-- ==== Sys2Proof/Machine/Port.lean ====
section
/-! DEFINITION. The command port and the reset input (spec/30_encoding.md R60, R66; 70_reset_and_hazards.md
R200, R206; log entries 1 to 3). -/

namespace Sys2Proof.Machine

/-- A command word taken from the port: R66's two encoding checks, then the command's own rule. -/
def State.issue (w : CmdWord) (s : State) : Result :=
  match decode w with
  | .command i => exec i s
  | .illegal _ => .next (s.raise .illegalCommand)

/-- A command word on the port: while reset is asserted no command is accepted (R200), and the block keeps
no copy of the word (20_memory.md R53; log entry 2). -/
def State.offer (w : CmdWord) (s : State) : Result :=
  if s.resetHeld then .next s else s.issue w

/-- The host's next input takes effect. With nothing pending nothing changes (60_exceptions.md R187). -/
def State.takeInput (s : State) : Result :=
  match s.pending with
  | [] => .next s
  | .command w :: rest => (s.setPending rest).offer w
  | .resetAsserted :: rest => .next ((s.setPending rest).resetElements.setResetHeld true)
  | .resetReleased :: rest =>
    .next (if s.resetHeld then (s.setPending rest).resetElements.setResetHeld false
      else s.setPending rest)

/-- The word as the very next command of a block whose reset is released (log entry 3). -/
def State.presentWord (w : CmdWord) (s : State) : State :=
  { s with resetHeld := false, pending := .command w :: s.pending }

end Sys2Proof.Machine
end

