-- ==== Sys2Proof/Machine/Assembler.lean ====
section
/-! DEFINITION. The assembler syntax and the pseudo-commands (spec/30_encoding.md R69, R70). A text is a list
of characters. What R69 leaves open about the text is fixed in log entry 13. -/

namespace Sys2Proof.Machine

/-! ### Pseudo-commands (R70) -/

/-- The pseudo-commands. -/
inductive Pseudo where
  | sfeed (bytes : List Byte)
  | fload (bytes : List Byte)
  | loopback
  | wrec (s0 s1 : Byte) (fields : Vector Half 12)
  deriving DecidableEq, Repr

/-- Their expansions, purely textual (R70). -/
def Pseudo.expand : Pseudo → List Instr
  | .sfeed bytes => bytes.map .spush
  | .fload bytes => .fclr :: bytes.map .fpush
  | .loopback => [.encode, .fcopy, .decode]
  | .wrec s0 s1 fields =>
    .wstat 0 s0 :: .wstat 1 s1 :: (List.finRange 12).map fun i => .wraw i.val fields[i]

/-! ### Text -/

/-- A line or a part of one. -/
abbrev Text := List Char

/-- An assembly error: the line is no command (R69). -/
inductive AsmError where
  | unknownMnemonic
  | operandCount
  | notANumber
  | outOfRange
  deriving DecidableEq, Repr

/-- What assembling gives. -/
abbrev Asm (α : Type) := Except AsmError α

/-- Space, tab or carriage return. -/
def isBlank (c : Char) : Bool := c == ' ' || c == '\t' || c == '\r'

/-- `;` starts a comment. -/
def stripComment (t : Text) : Text := t.takeWhile (· != ';')

/-- A text without the blanks around it. -/
def trim (t : Text) : Text := ((t.dropWhile isBlank).reverse.dropWhile isBlank).reverse

/-- A text cut at every separator. -/
def splitAtChar (sep : Char) : Text → List Text
  | [] => [[]]
  | c :: cs =>
    match splitAtChar sep cs with
    | [] => [[c]]
    | x :: xs => if c = sep then [] :: x :: xs else (c :: x) :: xs

/-! ### Numbers -/

/-- The value of a decimal or hexadecimal digit. -/
def digitValue (c : Char) : Option Nat :=
  if '0' ≤ c ∧ c ≤ '9' then some (c.toNat - 48)
  else if 'a' ≤ c ∧ c ≤ 'f' then some (c.toNat - 87)
  else if 'A' ≤ c ∧ c ≤ 'F' then some (c.toNat - 55)
  else none

/-- Digits in a base, continuing from `acc`. -/
def digitsFrom (base : Nat) : Nat → Text → Option Nat
  | acc, [] => some acc
  | acc, c :: cs =>
    match digitValue c with
    | some d => if d < base then digitsFrom base (acc * base + d) cs else none
    | none => none

/-- A non-empty run of digits. -/
def digits (base : Nat) (t : Text) : Option Nat :=
  if t = [] then none else digitsFrom base 0 t

/-- A number as written: decimal, possibly negative, or `0x` hexadecimal (R69). -/
inductive AsmNumber where
  | decimal (x : Int)
  | hex (n : Nat)
  deriving DecidableEq, Repr

/-- Reads a number. -/
def readNumber (t : Text) : Asm AsmNumber :=
  let r := match t with
    | '0' :: 'x' :: ds => (digits 16 ds).map .hex
    | '-' :: ds => (digits 10 ds).map fun n => .decimal (-n)
    | ds => (digits 10 ds).map fun n => .decimal n
  match r with
  | some x => .ok x
  | none => .error .notANumber

/-- The integer a number is, in either spelling. -/
def AsmNumber.value : AsmNumber → Int
  | .decimal x => x
  | .hex n => n

/-- An integer in a range, or an assembly error. -/
def inRange (lo hi x : Int) : Asm Int := if lo ≤ x ∧ x ≤ hi then .ok x else .error .outOfRange

/-- `imm8`: a byte. -/
def readImm8 (t : Text) : Asm Byte := do
  let x ← inRange 0 255 (← readNumber t).value
  return BitVec.ofInt 8 x

/-- `imm16`: decimal in -32768..65535, a negative value stored as its two's-complement pattern, or a 16-bit
hexadecimal pattern. -/
def readImm16 (t : Text) : Asm Half := do
  let x ← match ← readNumber t with
    | .decimal x => inRange (-32768) 65535 x
    | .hex n => inRange 0 65535 n
  return BitVec.ofInt 16 x

/-- `imm32`: decimal in -2147483648..2147483647, or a 32-bit hexadecimal pattern. -/
def readImm32 (t : Text) : Asm Word32 := do
  let x ← match ← readNumber t with
    | .decimal x => inRange (-2147483648) 2147483647 x
    | .hex n => inRange 0 4294967295 n
  return BitVec.ofInt 32 x

/-- The CSR names, by number (10_state.md R31). -/
def csrNames : List String :=
  ["STICKY", "SYNCST", "SPOS", "DISC", "NFRM", "NREJ", "NRSY"] ++
  ["LSEVT", "LSOFF", "LDISC", "FBST", "RECST", "VERSION"]

/-- The names the selector of an opcode may take (R69). -/
def Opcode.selNames : Opcode → List String
  | .wraw | .wscaled | .rdraw | .rdscaled => fieldTable.toList.map FieldRow.name
  | .rdcsr => csrNames
  | .nop | .clear | .clrstk | .spush | .seof | .srestart | .fclr | .fpush | .decode | .fcopy
  | .wstat | .encode | .rdstat | .rdob | .rdimg | .rdfb | .rdsb => []

/-- `sel`: a name where the opcode has names, or a number that fits the SEL field. -/
def readSel (o : Opcode) (t : Text) : Asm Byte :=
  match (Opcode.selNames o).findIdx? (·.toList == t) with
  | some k => .ok (BitVec.ofNat 8 k)
  | none => readImm8 t

/-! ### Lines -/

/-- A command of each class with its operands (R69). -/
def assembleCommand (o : Opcode) (ops : List Text) : Asm CmdWord :=
  match o.row.cls, ops with
  | .N, [] => .ok (assembleWord o.row.opc 0 0 0)
  | .B, [x] => do return assembleWord o.row.opc 0 0 ((← readImm8 x).setWidth 32)
  | .S, [x] => do return assembleWord o.row.opc (← readSel o x) 0 0
  | .SB, [x, y] => do return assembleWord o.row.opc (← readSel o x) 0 ((← readImm8 y).setWidth 32)
  | .SH, [x, y] => do return assembleWord o.row.opc (← readSel o x) 0 ((← readImm16 y).setWidth 32)
  | .SW, [x, y] => do return assembleWord o.row.opc (← readSel o x) 0 (← readImm32 y)
  | _, _ => .error .operandCount

/-- A list of operands, each read in the same way. -/
def readAll {α : Type} (read : Text → Asm α) : List Text → Asm (List α)
  | [] => .ok []
  | t :: ts => do return (← read t) :: (← readAll read ts)

/-- The pseudo-command of this name, if it is one, with its operands (R70). -/
def readPseudo (m : Text) (ops : List Text) : Option (Asm Pseudo) :=
  if m = "SFEED".toList then
    some (if ops = [] then .error .operandCount else do return .sfeed (← readAll readImm8 ops))
  else if m = "FLOAD".toList then
    some (if ops = [] then .error .operandCount else do return .fload (← readAll readImm8 ops))
  else if m = "LOOPBACK".toList then
    some (if ops = [] then .ok .loopback else .error .operandCount)
  else if m = "WREC".toList then
    some (match ops with
      | s0 :: s1 :: rs => do
        let b0 ← readImm8 s0
        let b1 ← readImm8 s1
        let fields ← readAll readImm16 rs
        if h : fields.length = 12 then return .wrec b0 b1 ⟨fields.toArray, by simpa using h⟩
        else .error .operandCount
      | _ => .error .operandCount)
  else none

/-- The opcode with this mnemonic. -/
def opcodeNamed (m : Text) : Option Opcode := Opcode.all.find? fun o => o.row.mnemonic.toList == m

/-- The words of one line: none for a blank line, one for a command, the expansion's for a
pseudo-command. -/
def assembleLine (line : Text) : Asm (List CmdWord) :=
  let t := trim (stripComment line)
  let m := t.takeWhile fun c => !isBlank c
  let rest := trim (t.drop m.length)
  let ops := if rest = [] then [] else (splitAtChar ',' rest).map trim
  if t = [] then .ok []
  else match readPseudo m ops with
    | some p => do return (← p).expand.map encode
    | none =>
      match opcodeNamed m with
      | some o => do return [← assembleCommand o ops]
      | none => .error .unknownMnemonic

/-- The words of a list of lines, in order. -/
def assembleLines : List Text → Asm (List CmdWord)
  | [] => .ok []
  | l :: ls => do return (← assembleLine l) ++ (← assembleLines ls)

/-- The words of a text, one command per line (R69). -/
def assembleText (t : Text) : Asm (List CmdWord) := assembleLines (splitAtChar '\n' t)

end Sys2Proof.Machine
end

