-- ==== Sys2Proof/Machine/Platform.lean ====
section
/-! DEFINITION. A platform of NINST independent GHX32 instances (spec/60_exceptions.md R191, 00_scope.md R9):
the product of NINST machines, whose steps interleave in any order. NINST is the argument `n`. -/

namespace Sys2Proof.Machine

/-- The states of the `n` instances. -/
abbrev Platform (n : Nat) := Vector State n

/-- Instance `k` takes a step; the others do nothing. -/
def platformStep {n : Nat} (k : Fin n) (p : Platform n) : Host.Outcome (Platform n) Fault Refusal :=
  match step p[k] with
  | .next t => .next (p.set k t)
  | .fault r => .fault r
  | .refused r => .refused r

/-- The platform's run under an interleaving: which instance steps, in order. -/
def platformRun {n : Nat} : List (Fin n) → Platform n → Host.Outcome (Platform n) Fault Refusal
  | [], p => .next p
  | k :: order, p =>
    match platformStep k p with
    | .next q => platformRun order q
    | .fault r => .fault r
    | .refused r => .refused r

/-- Every instance right after reset. -/
def platformReset (n : Nat) : Platform n := Vector.replicate n State.reset

end Sys2Proof.Machine
end

