-- ==== Sys2Proof/Machine/SyncRef.lean ====
section
/-! DEFINITION. The reference meaning of the synchronizer, `sync_ref` (spec/44_synchronizer.md R140), and the
windows the machine evaluates while a stream is pushed. -/

namespace Sys2Proof.Machine

/-- The 32 bytes of a stream from position `c`. -/
def windowAt (s : List Byte) (c : Nat) : Buf := Vector.ofFn fun k => s.getD (c + k.val) 0

/-- The loop of `sync_ref` from position `c`; every pass advances `c`, so `fuel = L` passes are enough. -/
def syncRefLoop : Nat → List Byte → Nat → List (Nat × ResultCode)
  | 0, _, _ => []
  | fuel + 1, s, c =>
    if c + 32 ≤ s.length then
      if s.getD c 0 = sync0 ∧ s.getD (c + 1) 0 = sync1 then
        let r := validate (windowAt s c) 32
        (c, r) :: syncRefLoop fuel s (if r = .ok then c + 32 else c + 1)
      else syncRefLoop fuel s (c + 1)
    else []

/-- `sync_ref(s)`: the offsets and verdicts of the windows of a stream, in order (R140). -/
def syncRef (s : List Byte) : List (Nat × ResultCode) := syncRefLoop s.length s 0

/-- The window an SPUSH evaluated, as the host reads it after the command: its offset LSOFF and its verdict
RSP_CODE. RSP_DATA is 0 exactly where no window was evaluated (R143). -/
def State.windowReported (t : State) : List (Word32 × ResultCode) :=
  if t.rspData = 0 then [] else [(t.lsoff, t.rspCode)]

/-- SPUSH of each byte in order: the last state and the windows reported on the way. -/
def feedStream : List Byte → State → Option (State × List (Word32 × ResultCode))
  | [], s => some (s, [])
  | b :: bs, s =>
    match exec (.spush b) s with
    | .next t => (feedStream bs t).map fun r => (r.1, t.windowReported ++ r.2)
    | .fault _ => none
    | .refused _ => none

end Sys2Proof.Machine
end

