-- ==== Sys2Proof/Safety.lean ====
section
/-! DEFINITION. The invariants of a GHX32 state between commands, in the terms the statements use
(spec/10_state.md R23 to R25, R29), and what a run that never stops is. -/

namespace Sys2Proof.Machine

/-- The sync-buffer invariant, (i) to (iv) of 10_state.md R25. -/
abbrev State.SyncInv (s : State) : Prop :=
  s.sbLen ≤ 31 ∧
  (1 ≤ s.sbLen → s.sb[0] = 0x5A#8) ∧
  (2 ≤ s.sbLen → s.sb[1] = 0xA5#8) ∧
  ∀ k : Fin 32, s.sbLen ≤ k.val → s.sb[k] = 0#8

/-- FB_LEN is in 0..33, and the positions at and above it are 0 whenever it is at most 32
(10_state.md R23). -/
abbrev State.FrameBufInv (s : State) : Prop :=
  s.fbLen ≤ 33 ∧ ∀ k : Fin 32, s.fbLen ≤ 32 → s.fbLen ≤ k.val → s.fb[k] = 0#8

/-- STICKY bit 0 is hard-wired to 0 (10_state.md R29). -/
abbrev State.StickyInv (s : State) : Prop := s.sticky.getLsbD 0 = false

/-- OB is all zero or holds a frame that passes validation (10_state.md R24, 43_encoder.md R133). -/
abbrev State.OutputInv (s : State) : Prop :=
  s.ob = Buf.zero ∨ validate s.ob 32 = .ok

/-- Once the stream has ended nothing is buffered (44_synchronizer.md R147). -/
abbrev State.EofInv (s : State) : Prop := s.eof = true → s.sbLen = 0

/-- Everything that holds of a state between commands. -/
abbrev State.Inv (s : State) : Prop :=
  s.SyncInv ∧ s.FrameBufInv ∧ s.StickyInv ∧ s.OutputInv ∧ s.EofInv

/-- A synchronizer at the start of a stream: nothing buffered, nothing counted, the stream open
(44_synchronizer.md R148). -/
abbrev State.StreamStart (s : State) : Prop :=
  s.sb = Buf.zero ∧ s.sbLen = 0 ∧ s.spos = 0 ∧ s.eof = false ∧ s.disc = 0 ∧
  s.nfrm = 0 ∧ s.nrej = 0 ∧ s.nrsy = 0

/-- The meanings of a list of commands, one after another (20_memory.md R50). -/
def runCommands : List Instr → State → Result
  | [], s => .next s
  | i :: is, s =>
    match exec i s with
    | .next t => runCommands is t
    | .fault r => .fault r
    | .refused r => .refused r

/-- A run that never stops with a fault or a refusal. -/
def RunsForever (s : State) : Prop := ∀ k : Nat, ∃ t, Sys2Proof.core.run k s = .next t

end Sys2Proof.Machine
end

