-- ==== Sys2Proof/Certificates/Slice0/Obligations.lean ====
section
/-! DEFINITION. The statements for the provers, from the numbered rules of spec/. -/

open Sys2Proof Sys2Proof.Machine

/-! ### Encoding and decoding (30_encoding.md) -/

/-- Every well-formed command, with every value of every operand, decodes back from its word
(R60, R62, R64, R66). -/
def Obligations.EveryCommandDecodesFromItsWord : Prop :=
  ∀ i : Instr, i.wf = true → decode (encode i) = .command i

/-- Every word that decodes is the word of the command it decodes to, and that command is well-formed: no
bit of a command word is ignored (R64, R66). -/
def Obligations.EveryDecodedWordIsTheCommandsWord : Prop :=
  ∀ (w : CmdWord) (i : Instr), decode w = .command i → i.wf = true ∧ encode i = w

/-- R65: a word is a command of a row exactly when `(word AND mask) = match`, with the match values and masks
of R65's table (R64); the table has one row for each of the 22 opcodes, and no word matches two rows (R65's own
inference from R63). -/
def Obligations.WordsMatchTheTableOfMatchesAndMasks : Prop :=
  let table : List (Opcode × CmdWord × CmdWord) := [
    (.nop, 0x0000000000000000, 0xFFFFFFFFFFFFFFFF),
    (.clear, 0x0100000000000000, 0xFFFFFFFFFFFFFFFF),
    (.clrstk, 0x0200000000000000, 0xFFFFFFFFFFFFFFFF),
    (.spush, 0x1000000000000000, 0xFFFFFFFFFFFFFF00),
    (.seof, 0x1100000000000000, 0xFFFFFFFFFFFFFFFF),
    (.srestart, 0x1200000000000000, 0xFFFFFFFFFFFFFFFF),
    (.fclr, 0x2000000000000000, 0xFFFFFFFFFFFFFFFF),
    (.fpush, 0x2100000000000000, 0xFFFFFFFFFFFFFF00),
    (.decode, 0x2200000000000000, 0xFFFFFFFFFFFFFFFF),
    (.fcopy, 0x2300000000000000, 0xFFFFFFFFFFFFFFFF),
    (.wstat, 0x3000000000000000, 0xFF00FFFFFFFFFF00),
    (.wraw, 0x3100000000000000, 0xFF00FFFFFFFF0000),
    (.wscaled, 0x3200000000000000, 0xFF00FFFF00000000),
    (.encode, 0x4000000000000000, 0xFFFFFFFFFFFFFFFF),
    (.rdraw, 0x5000000000000000, 0xFF00FFFFFFFFFFFF),
    (.rdscaled, 0x5100000000000000, 0xFF00FFFFFFFFFFFF),
    (.rdstat, 0x5200000000000000, 0xFF00FFFFFFFFFFFF),
    (.rdob, 0x5300000000000000, 0xFF00FFFFFFFFFFFF),
    (.rdimg, 0x5400000000000000, 0xFF00FFFFFFFFFFFF),
    (.rdfb, 0x5500000000000000, 0xFF00FFFFFFFFFFFF),
    (.rdsb, 0x5600000000000000, 0xFF00FFFFFFFFFFFF),
    (.rdcsr, 0x5700000000000000, 0xFF00FFFFFFFFFFFF)]
  table.map Prod.fst = Opcode.all ∧
  (∀ (w : CmdWord) (o : Opcode) (m k : CmdWord), (o, m, k) ∈ table →
    (w &&& k = m ↔ ∃ i, decode w = .command i ∧ i.opcode = o)) ∧
  (∀ (w : CmdWord) (o o' : Opcode) (m k m' k' : CmdWord), (o, m, k) ∈ table → (o', m', k') ∈ table →
    w &&& k = m → w &&& k' = m' → o = o')

/-- R68: a word with a reserved opcode, or with a defined opcode and a must-be-zero bit set, is answered with
IllegalCommand and has no other effect. The reserved opcodes are the six ranges of R68; the must-be-zero bits
are those of R64's classes. The word is taken from the model's port, log entry 1. -/
def Obligations.ReservedOpcodesAndSetZeroBitsAreIllegal : Prop :=
  ∀ (s : State) (w : CmdWord) (rest : List HostEvent),
    s.resetHeld = false → s.pending = .command w :: rest →
    (let opc := (w >>> 56).toNat
     (0x03 ≤ opc ∧ opc ≤ 0x0F) ∨ (0x13 ≤ opc ∧ opc ≤ 0x1F) ∨ (0x24 ≤ opc ∧ opc ≤ 0x2F) ∨
     (0x33 ≤ opc ∧ opc ≤ 0x3F) ∨ (0x41 ≤ opc ∧ opc ≤ 0x4F) ∨ (0x58 ≤ opc ∧ opc ≤ 0xFF) ∨
     (opc ∈ [0x00, 0x01, 0x02, 0x11, 0x12, 0x20, 0x22, 0x23, 0x40] ∧
       w &&& 0x00FFFFFFFFFFFFFF ≠ 0) ∨
     (opc ∈ [0x10, 0x21] ∧ w &&& 0x00FFFFFFFFFFFF00 ≠ 0) ∨
     (opc ∈ [0x50, 0x51, 0x52, 0x53, 0x54, 0x55, 0x56, 0x57] ∧ w &&& 0x0000FFFFFFFFFFFF ≠ 0) ∨
     (opc = 0x30 ∧ w &&& 0x0000FFFFFFFFFF00 ≠ 0) ∨
     (opc = 0x31 ∧ w &&& 0x0000FFFFFFFF0000 ≠ 0) ∨
     (opc = 0x32 ∧ w &&& 0x0000FFFF00000000 ≠ 0)) →
    step s = .next { s with
      pending := rest, rspCode := .illegalCommand, rspData := 0, sticky := s.sticky ||| 0x020#9 }

/-- R71's words, written out from R60 to R65, are the commands R71 says they are, and its three bad words are
answered as it says (R71 marks its examples as the spec's own inference). -/
def Obligations.ExampleWordsDecodeAsTheSpecSays : Prop :=
  (encode .nop = 0x0000000000000000 ∧ decode 0x0000000000000000 = .command .nop) ∧
  (encode (.spush 0xA5) = 0x10000000000000A5 ∧
    decode 0x10000000000000A5 = .command (.spush 0xA5)) ∧
  (encode (.wstat 1 0x7F) = 0x300100000000007F ∧
    decode 0x300100000000007F = .command (.wstat 1 0x7F)) ∧
  (encode (.wraw 1 0x8000) = 0x3101000000008000 ∧
    decode 0x3101000000008000 = .command (.wraw 1 0x8000)) ∧
  (encode (.wscaled 0 5898240) = 0x32000000005A0000 ∧
    decode 0x32000000005A0000 = .command (.wscaled 0 5898240)) ∧
  (encode (.rdcsr 6) = 0x5706000000000000 ∧
    decode 0x5706000000000000 = .command (.rdcsr 6)) ∧
  (∀ s : State, State.issue 0x100100000000005A s = .next { s with
    rspCode := .illegalCommand, rspData := 0, sticky := s.sticky ||| 0x020#9 }) ∧
  (∀ s : State, State.issue 0x5000000000000001 s = .next { s with
    rspCode := .illegalCommand, rspData := 0, sticky := s.sticky ||| 0x020#9 }) ∧
  (∀ s : State, State.issue 0x500C000000000000 s = .next { s with
    rspCode := .badSelect, rspData := 0, sticky := s.sticky ||| 0x040#9 })

/-- R67: a selector above its opcode's range is answered with BadSelect, whatever the other operands, and
changes nothing else. -/
def Obligations.SelectorsOutOfRangeRaiseBadSelect : Prop :=
  ∀ (s : State) (sel : Nat) (b : Byte) (h : Half) (p : Int),
    let bad : Result := .next { s with
      rspCode := .badSelect, rspData := 0, sticky := s.sticky ||| 0x040#9 }
    (1 < sel → exec (.wstat sel b) s = bad ∧ exec (.rdstat sel) s = bad) ∧
    (11 < sel → exec (.wraw sel h) s = bad ∧ exec (.wscaled sel p) s = bad ∧
      exec (.rdraw sel) s = bad ∧ exec (.rdscaled sel) s = bad) ∧
    (31 < sel → exec (.rdob sel) s = bad ∧ exec (.rdfb sel) s = bad ∧ exec (.rdsb sel) s = bad) ∧
    (25 < sel → exec (.rdimg sel) s = bad) ∧
    (12 < sel → exec (.rdcsr sel) s = bad)

/-! ### The step, the host and reset -/

/-- A step of a block whose reset is released and on whose port a command word is pending runs the decoded
command on the state with that word taken (R13, R66; the port is log entry 1). -/
def Obligations.AStepRunsTheDecodedCommand : Prop :=
  ∀ (s : State) (w : CmdWord) (i : Instr) (rest : List HostEvent),
    s.resetHeld = false → s.pending = .command w :: rest → decode w = .command i →
    step s = exec i { s with pending := rest }

/-- R200 and R187, on the model's port (log entries 1 and 2, the model's choice for what a step is): releasing
an asserted reset leaves the machine as it is right after reset; while reset is asserted no command is
accepted; with nothing pending nothing changes. -/
def Obligations.ResetInputAndIdlePort : Prop :=
  (∀ (s : State) (rest : List HostEvent), s.resetHeld = true → s.pending = .resetReleased :: rest →
    step s = .next { State.reset with pending := rest }) ∧
  (∀ (s : State) (rest : List HostEvent), s.pending = .resetAsserted :: rest →
    step s = .next { State.reset with resetHeld := true, pending := rest }) ∧
  (∀ (s : State) (w : CmdWord) (rest : List HostEvent), s.resetHeld = true →
    s.pending = .command w :: rest → step s = .next { s with pending := rest }) ∧
  (∀ s : State, s.pending = [] → step s = .next s)

/-- R50: the state after a command sequence is the left fold of the command rules over that sequence, from
any state whose reset is released; what the host does afterwards is untouched. That one pending input takes one
step is the model's choice, log entry 1. -/
def Obligations.ACommandSequenceIsALeftFold : Prop :=
  ∀ (ws : List CmdWord) (s : State) (rest : List HostEvent), s.resetHeld = false →
    Sys2Proof.core.run ws.length { s with pending := ws.map .command ++ rest } =
      ws.foldl (fun r w => match r with | .next t => t.issue w | stopped => stopped)
        (Host.Outcome.next { s with pending := rest })

/-- R34, R161: power-on reset, and the CLEAR command, set every state element to the values of R34's table.
CLEAR keeps what is no element of the block, the host's side (log entries 1 and 2). -/
def Obligations.ResetAndClearSetEveryElement : Prop :=
  (∀ j : Fin 2, State.reset.stat[j] = 0x00#8) ∧ (∀ i : Fin 12, State.reset.raw[i] = 0x0000#16) ∧
  State.reset.valid = false ∧
  (∀ k : Fin 32, State.reset.fb[k] = 0x00#8 ∧ State.reset.ob[k] = 0x00#8 ∧
    State.reset.sb[k] = 0x00#8) ∧
  State.reset.fbLen = 0 ∧ State.reset.sbLen = 0 ∧
  State.reset.spos = 0 ∧ State.reset.disc = 0 ∧ State.reset.nfrm = 0 ∧ State.reset.nrej = 0 ∧
  State.reset.nrsy = 0 ∧ State.reset.lsoff = 0 ∧ State.reset.ldisc = 0 ∧
  State.reset.lsevt.word = 0 ∧ State.reset.eof = false ∧
  State.reset.rspCode.byte = 0 ∧ State.reset.rspData = 0 ∧ State.reset.sticky = 0 ∧
  (∀ s : State, s.csr 12 = 0x00000001) ∧
  (∀ s : State, exec .clear s =
    .next { State.reset with resetHeld := s.resetHeld, pending := s.pending })

/-- R181, R184: no command and no input stops the block: every run of every length goes on. What an input is
is the model's choice, log entries 1 and 2. -/
def Obligations.TheBlockNeverStops : Prop := ∀ s : State, RunsForever s

/-! ### Control commands (45_control.md) -/

/-- R160, R162: NOP writes only the response port; CLRSTK also zeroes STICKY. -/
def Obligations.NopAndClrstkWriteOnlyTheResponseAndSticky : Prop :=
  (∀ s : State, exec .nop s = .next { s with rspCode := .ok, rspData := 0 }) ∧
  (∀ s : State, exec .clrstk s = .next { s with sticky := 0, rspCode := .ok, rspData := 0 })

/-- R163, R31, R32: RDCSR reads each of the 13 CSRs, as R31 and R32 assemble it, and writes only the response
port. `SyncInv` and `FrameBufInv` bound the two lengths as R23 and R25 do. -/
def Obligations.RdcsrReadsEveryCsr : Prop :=
  ∀ s : State, s.SyncInv → s.FrameBufInv →
    let reads (sel : Nat) (v : Word32) : Prop :=
      exec (.rdcsr sel) s = .next { s with rspCode := .ok, rspData := v }
    reads 0 (BitVec.ofNat 32 (s.sticky.toNat / 2 * 2)) ∧
    reads 1 (BitVec.ofNat 32 (s.sbLen + 256 * s.eof.toNat)) ∧
    reads 2 s.spos ∧ reads 3 s.disc ∧ reads 4 s.nfrm ∧ reads 5 s.nrej ∧ reads 6 s.nrsy ∧
    reads 7 (match s.lsevt with
      | .noWindow => 0 | .accepted false => 0x01 | .accepted true => 0x11
      | .rejectedTerminator => 0x02 | .rejectedChecksum => 0x03) ∧
    reads 8 s.lsoff ∧ reads 9 s.ldisc ∧
    reads 10 (BitVec.ofNat 32 s.fbLen) ∧ reads 11 (BitVec.ofNat 32 s.valid.toNat) ∧
    reads 12 0x00000001

/-! ### Checksum validator and frame decoder (41_checksum_validator.md) -/

/-- R80: the checksum is the sum of bytes 0..29 as unsigned values, modulo 256, and summing with 8-bit
wrapping addition gives the same result. -/
def Obligations.ChecksumIsTheSumOfThirtyBytesModulo256 : Prop :=
  ∀ f : Buf, (csum f).toNat = (∑ k : Fin 30, (f[k.val]).toNat) % 256 ∧
    csum f = (f.toList.take 30).foldl (· + ·) 0#8

/-- R83, R85: FCLR zeroes the frame buffer; FCOPY loads it from the output buffer. -/
def Obligations.FclrAndFcopyLoadTheFrameBuffer : Prop :=
  (∀ s : State, exec .fclr s = .next { s with
    fb := Vector.replicate 32 0, fbLen := 0, rspCode := .ok, rspData := 0 }) ∧
  (∀ s : State, exec .fcopy s = .next { s with
    fb := s.ob, fbLen := 32, rspCode := .ok, rspData := 0 })

/-- R84: FPUSH stores its byte at FB_LEN while there is room, stores nothing from 32 bytes on, and answers the
new FB_LEN. -/
def Obligations.FpushAppendsUntilTheBufferIsFull : Prop :=
  ∀ (s : State) (b : Byte),
    (∀ h : s.fbLen < 32, exec (.fpush b) s = .next { s with
      fb := s.fb.set s.fbLen b h, fbLen := s.fbLen + 1,
      rspCode := .ok, rspData := BitVec.ofNat 32 (s.fbLen + 1) }) ∧
    (32 ≤ s.fbLen → exec (.fpush b) s = .next { s with
      fbLen := 33, rspCode := .ok, rspData := 33 })

/-- R70, R84: FLOAD of any byte sequence leaves its first 32 bytes in FB, 0 above them, and FB_LEN the number
of bytes, saturated at 33; it changes nothing else but the response port. -/
def Obligations.FloadLoadsAnyByteSequence : Prop :=
  ∀ (s : State) (bytes : List Byte),
    ∃ t, runCommands (Pseudo.fload bytes).expand s = .next t ∧
      t.fbLen = min bytes.length 33 ∧
      (∀ k : Fin 32, t.fb[k] = bytes.getD k.val 0) ∧
      t = { s with fb := t.fb, fbLen := t.fbLen, rspCode := t.rspCode, rspData := t.rspData }

/-- R86, R81, R102: DECODE of 32 bytes that pass the four checks loads the record from the frame, sets VALID
and answers OK; it changes nothing else. -/
def Obligations.DecodeLoadsAValidFrame : Prop :=
  ∀ s : State, s.fbLen = 32 → s.fb[0] = 0x5A#8 → s.fb[1] = 0xA5#8 → s.fb[31] = 0xAA#8 →
    (s.fb[30]).toNat = (∑ k : Fin 30, (s.fb[k.val]).toNat) % 256 →
    ∃ t, exec .decode s = .next t ∧
      t.stat[0] = s.fb[4] ∧ t.stat[1] = s.fb[5] ∧
      (∀ i : Fin 12, (t.raw[i]).toNat =
        (s.fb[6 + 2 * i.val]'(by omega)).toNat * 256 + (s.fb[7 + 2 * i.val]'(by omega)).toNat) ∧
      t = { s with
        stat := t.stat, raw := t.raw, valid := true, rspCode := .ok, rspData := 0 }

/-- R81, R82, R86: DECODE of a sequence that fails a check answers the first failing check's code in the order
length, sync, terminator, checksum; it clears VALID and changes nothing else. -/
def Obligations.DecodeReportsTheFirstFailingCheck : Prop :=
  ∀ s : State,
    let sum := (∑ k : Fin 30, (s.fb[k.val]).toNat) % 256
    let fails (code : ResultCode) (bit : BitVec 9) : Prop :=
      exec .decode s = .next { s with
        valid := false, rspCode := code, rspData := 0, sticky := s.sticky ||| bit }
    (s.fbLen ≠ 32 → fails .truncatedFrame 0x002) ∧
    (s.fbLen = 32 → (s.fb[0] ≠ 0x5A#8 ∨ s.fb[1] ≠ 0xA5#8) → fails .syncMismatch 0x004) ∧
    (s.fbLen = 32 → s.fb[0] = 0x5A#8 → s.fb[1] = 0xA5#8 → s.fb[31] ≠ 0xAA#8 →
      fails .terminatorMismatch 0x008) ∧
    (s.fbLen = 32 → s.fb[0] = 0x5A#8 → s.fb[1] = 0xA5#8 → s.fb[31] = 0xAA#8 →
      (s.fb[30]).toNat ≠ sum → fails .checksumMismatch 0x010)

/-- R88 (a) to (d), the spec's own inference: in a valid frame, changing one byte to any other value makes it
fail: with SyncMismatch for bytes 0 and 1, TerminatorMismatch for byte 31, ChecksumMismatch for every other
byte. -/
def Obligations.EverySingleByteChangeIsDetected : Prop :=
  ∀ (f : Buf) (k : Fin 32) (v : Byte), validate f 32 = .ok → v ≠ f[k] →
    validate (f.set k v) 32 =
      if k.val ≤ 1 then .syncMismatch
      else if k.val = 31 then .terminatorMismatch
      else .checksumMismatch

/-- R88 (e), the spec's own inference: changes of two payload bytes that cancel modulo 256, and a swap of two
payload bytes, are not detected. -/
def Obligations.CompensatingChangesAreNotDetected : Prop :=
  ∀ (f : Buf) (j k : Fin 32), validate f 32 = .ok →
    2 ≤ j.val → j.val ≤ 29 → 2 ≤ k.val → k.val ≤ 29 → j ≠ k →
    (∀ d : Byte, validate ((f.set j (f[j] + d)).set k (f[k] - d)) 32 = .ok) ∧
    validate ((f.set j f[k]).set k f[j]) 32 = .ok

/-! ### Record, converter, scaler and unscaler (42_extractor_scaler.md) -/

/-- R110, R111: WSTAT and WRAW write one register, clear VALID, answer OK and change nothing else. -/
def Obligations.WstatAndWrawWriteOneRegister : Prop :=
  (∀ (s : State) (j : Fin 2) (b : Byte), exec (.wstat j.val b) s = .next { s with
    stat := s.stat.set j b, valid := false, rspCode := .ok, rspData := 0 }) ∧
  (∀ (s : State) (i : Fin 12) (h : Half), exec (.wraw i.val h) s = .next { s with
    raw := s.raw.set i h, valid := false, rspCode := .ok, rspData := 0 })

/-- R112, R106: WSCALED divides by the field's multiplier, rounds to nearest with ties to even, and stores the
raw pattern where it is in the field's raw range; otherwise it raises FieldOutOfRange and writes nothing but
the response and STICKY. The multipliers and raw ranges are R100's and R101's. -/
def Obligations.WscaledStoresTheNearestRawValue : Prop :=
  ∀ (s : State) (i : Fin 12) (p : Int),
    let n : Int := if i.val = 0 then 180 else if i.val ≤ 2 then 90
      else if 6 ≤ i.val ∧ i.val ≤ 8 then 2 else 1
    let lo : Int := if i.val = 0 ∨ i.val = 3 then 0 else -32768
    let hi : Int := if i.val = 0 ∨ i.val = 3 then 65535 else 32767
    ∃ raw : Int,
      (2 * |raw * n - p| < n ∨ (2 * |raw * n - p| = n ∧ raw % 2 = 0)) ∧
      (lo ≤ raw → raw ≤ hi → exec (.wscaled i.val p) s = .next { s with
        raw := s.raw.set i (BitVec.ofInt 16 raw), valid := false,
        rspCode := .ok, rspData := BitVec.ofInt 32 (raw % 65536) }) ∧
      (raw < lo ∨ hi < raw → exec (.wscaled i.val p) s = .next { s with
        rspCode := .fieldOutOfRange, rspData := 0, sticky := s.sticky ||| 0x080#9 })

/-- R105: the model's rounding division is `rne` of the exact rational quotient: the floor, the floor plus
one, or on a tie the even one of the two. -/
def Obligations.RoundingDivisionIsRoundHalfToEven : Prop :=
  ∀ (p : Int) (n : Nat), 0 < n →
    let q : ℚ := (p : ℚ) / (n : ℚ)
    let f : Int := ⌊q⌋
    let r : ℚ := q - f
    rneDiv p n = if r < 1 / 2 then f else if r > 1 / 2 then f + 1
      else if Even f then f else f + 1

/-- R106: the values of P that unscale without error are those of R106's table, the spec's own inference. -/
def Obligations.UnscaleAcceptsTheTabledRange : Prop :=
  ∀ (i : Fin 12) (p : Int),
    ((unscale i p).isSome = true ↔
      if i.val = 0 then -90 ≤ p ∧ p ≤ 11796389
      else if i.val ≤ 2 then -2949165 ≤ p ∧ p ≤ 2949074
      else if i.val = 3 then 0 ≤ p ∧ p ≤ 65535
      else if i.val ≤ 5 then -32768 ≤ p ∧ p ≤ 32767
      else if i.val ≤ 8 then -65537 ≤ p ∧ p ≤ 65534
      else -32768 ≤ p ∧ p ≤ 32767)

/-- R107, the spec's own inference: unscaling a scaled raw value gives it back; scaling an unscaled value is
within half a multiplier of the value, and so within half a scale factor in physical units. -/
def Obligations.ScalingRoundTripsWithinHalfAStep : Prop :=
  (∀ (i : Fin 12) (h : Half), unscale i (scale i h) = some h) ∧
  (∀ (i : Fin 12) (p : Int) (h : Half), unscale i p = some h →
    2 * |scale i h - p| ≤ fieldMult i ∧
    |(scale i h : ℚ) / fieldDenom i - (p : ℚ) / fieldDenom i| ≤
      ((fieldMult i : ℚ) / fieldDenom i) / 2)

/-- R114, R104: RDSCALED answers the exact product of the field's integer value and its multiplier, which fits
32 bits and lies in R104's range for the field (the spec's own inference); it changes only the response port. -/
def Obligations.RdscaledAnswersTheExactProduct : Prop :=
  ∀ (s : State) (i : Fin 12),
    let n : Int := if i.val = 0 then 180 else if i.val ≤ 2 then 90
      else if 6 ≤ i.val ∧ i.val ≤ 8 then 2 else 1
    let x : Int := if i.val = 0 ∨ i.val = 3 then ((s.raw[i]).toNat : Int) else (s.raw[i]).toInt
    ∃ d : Word32, exec (.rdscaled i.val) s = .next { s with rspCode := .ok, rspData := d } ∧
      d.toInt = x * n ∧
      (if i.val = 0 then 0 ≤ d.toInt ∧ d.toInt ≤ 11796300
       else if i.val ≤ 2 then -2949120 ≤ d.toInt ∧ d.toInt ≤ 2949030
       else if i.val = 3 then 0 ≤ d.toInt ∧ d.toInt ≤ 65535
       else if i.val ≤ 5 then -32768 ≤ d.toInt ∧ d.toInt ≤ 32767
       else if i.val ≤ 8 then -65536 ≤ d.toInt ∧ d.toInt ≤ 65534
       else -32768 ≤ d.toInt ∧ d.toInt ≤ 32767)

/-- R113, R101: RDRAW answers the field's pattern, zero-extended for fields 0 and 3 and sign-extended for the
others; it changes only the response port. -/
def Obligations.RdrawExtendsBySignedness : Prop :=
  ∀ (s : State) (i : Fin 12), exec (.rdraw i.val) s = .next { s with
    rspCode := .ok
    rspData := if i.val = 0 ∨ i.val = 3 then (s.raw[i]).setWidth 32 else (s.raw[i]).signExtend 32 }

/-- R87, R115, R132, R149: RDFB, RDSTAT, RDOB and RDSB answer one byte, zero-extended; they change only the
response port. -/
def Obligations.ByteReadsAreZeroExtended : Prop :=
  (∀ (s : State) (k : Fin 32), exec (.rdfb k.val) s = .next { s with
    rspCode := .ok, rspData := (s.fb[k]).setWidth 32 }) ∧
  (∀ (s : State) (j : Fin 2), exec (.rdstat j.val) s = .next { s with
    rspCode := .ok, rspData := (s.stat[j]).setWidth 32 }) ∧
  (∀ (s : State) (k : Fin 32), exec (.rdob k.val) s = .next { s with
    rspCode := .ok, rspData := (s.ob[k]).setWidth 32 }) ∧
  (∀ (s : State) (k : Fin 32), exec (.rdsb k.val) s = .next { s with
    rspCode := .ok, rspData := (s.sb[k]).setWidth 32 })

/-- R116, R103: RDIMG answers the little-endian record image: the status bytes, then each field's low byte at
the even index and high byte at the odd one; it changes only the response port. -/
def Obligations.RdimgReadsTheLittleEndianImage : Prop :=
  ∀ s : State,
    let reads (k : Nat) (v : Nat) : Prop :=
      exec (.rdimg k) s = .next { s with rspCode := .ok, rspData := BitVec.ofNat 32 v }
    reads 0 (s.stat[0]).toNat ∧ reads 1 (s.stat[1]).toNat ∧
    ∀ i : Fin 12, reads (2 + 2 * i.val) ((s.raw[i]).toNat % 256) ∧
      reads (3 + 2 * i.val) ((s.raw[i]).toNat / 256)

/-- R103, the spec's own inference: after a successful DECODE the 26-byte image is the wire frame's payload: the
two status bytes as they stand, and each 2-byte field swapped. -/
def Obligations.ImageSwapsTheBytesOfEachDecodedField : Prop :=
  ∀ s t : State, exec .decode s = .next t → t.rspCode = .ok →
    let reads (k : Nat) (b : Byte) : Prop :=
      exec (.rdimg k) t = .next { t with rspCode := .ok, rspData := b.setWidth 32 }
    reads 0 s.fb[4] ∧ reads 1 s.fb[5] ∧
    ∀ i : Fin 12, reads (2 + 2 * i.val) (s.fb[7 + 2 * i.val]'(by omega)) ∧
      reads (3 + 2 * i.val) (s.fb[6 + 2 * i.val]'(by omega))

/-! ### Frame encoder (43_encoder.md) -/

/-- R131, R130: ENCODE writes the wire frame of the record to OB, byte by byte, answers the checksum byte, and
changes nothing else. -/
def Obligations.EncodeBuildsTheWireFrame : Prop :=
  ∀ s : State, ∃ t, exec .encode s = .next t ∧
    t.ob[0] = 0x5A#8 ∧ t.ob[1] = 0xA5#8 ∧ t.ob[2] = 0x1A#8 ∧ t.ob[3] = 0x01#8 ∧
    t.ob[4] = s.stat[0] ∧ t.ob[5] = s.stat[1] ∧
    (∀ i : Fin 12,
      (t.ob[6 + 2 * i.val]'(by omega)).toNat = (s.raw[i]).toNat / 256 ∧
      (t.ob[7 + 2 * i.val]'(by omega)).toNat = (s.raw[i]).toNat % 256) ∧
    (t.ob[30]).toNat = (∑ k : Fin 30, (t.ob[k.val]).toNat) % 256 ∧
    t.ob[31] = 0xAA#8 ∧
    t = { s with ob := t.ob, rspCode := .ok, rspData := (t.ob[30]).setWidth 32 }

/-- R133, the spec's own inference: every frame ENCODE builds passes validation, and ENCODE, FCOPY, DECODE end
with OK, VALID = 1 and the record as it was. -/
def Obligations.EncodedFramesValidateAndRoundTrip : Prop :=
  (∀ (stat : Vector Byte 2) (raw : Vector Half 12), validate (frame stat raw) 32 = .ok) ∧
  ∀ s : State, ∃ t, runCommands Pseudo.loopback.expand s = .next t ∧
    t.rspCode = .ok ∧ t.valid = true ∧ t.stat = s.stat ∧ t.raw = s.raw ∧
    t.ob = frame s.stat s.raw ∧ t.fb = t.ob ∧ t.fbLen = 32 ∧ t.sticky = s.sticky

/-! ### Stream synchronizer (44_synchronizer.md) -/

/-- R143, R147: after the end of the stream SPUSH is refused with StreamEnded and takes nothing. -/
def Obligations.SpushAfterTheEndIsRefused : Prop :=
  ∀ (s : State) (b : Byte), s.eof = true → exec (.spush b) s = .next { s with
    rspCode := .streamEnded, rspData := 0, sticky := s.sticky ||| 0x100#9 }

/-- R143, R142: while the pushed byte does not fill the window, it is kept where the buffered bytes can still
start a frame, and bytes that cannot are discarded and counted; nothing else changes but SPOS and the
response, which is (OK, 0). -/
def Obligations.SpushKeepsOnlyWhatCanStartAFrame : Prop :=
  ∀ (s : State) (b : Byte), s.SyncInv → s.eof = false →
    let leaves (sb : Buf) (n : Nat) (lost : Word32) : Prop :=
      exec (.spush b) s = .next { s with
        sb := sb, sbLen := n, spos := s.spos + 1, disc := s.disc + lost,
        rspCode := .ok, rspData := 0 }
    (s.sbLen = 0 → b = 0x5A#8 → leaves (s.sb.set 0 b) 1 0) ∧
    (s.sbLen = 0 → b ≠ 0x5A#8 → leaves (Vector.replicate 32 0) 0 1) ∧
    (s.sbLen = 1 → b = 0xA5#8 → leaves (s.sb.set 1 b) 2 0) ∧
    (s.sbLen = 1 → b = 0x5A#8 → leaves s.sb 1 1) ∧
    (s.sbLen = 1 → b ≠ 0xA5#8 → b ≠ 0x5A#8 → leaves (Vector.replicate 32 0) 0 2) ∧
    (∀ h : s.sbLen < 31, 2 ≤ s.sbLen →
      leaves (s.sb.set s.sbLen b (by omega)) (s.sbLen + 1) 0)

/-- R143, R144, R145: the byte that completes a window which passes validation accepts it: the record, VALID,
NFRM, LSEVT and LSOFF are written, a resync event is counted and reported exactly when bytes were discarded,
DISC and the buffer are cleared, and the response is (OK, event word). -/
def Obligations.SpushAcceptsAValidWindow : Prop :=
  ∀ (s : State) (b : Byte), s.SyncInv → s.eof = false → s.sbLen = 31 →
    let w := s.sb.set 31 b
    b = 0xAA#8 → (w[30]).toNat = (∑ k : Fin 30, (w[k.val]).toNat) % 256 →
    ∃ t, exec (.spush b) s = .next t ∧
      t.stat[0] = w[4] ∧ t.stat[1] = w[5] ∧
      (∀ i : Fin 12, (t.raw[i]).toNat =
        (w[6 + 2 * i.val]'(by omega)).toNat * 256 + (w[7 + 2 * i.val]'(by omega)).toNat) ∧
      t = { s with
        stat := t.stat, raw := t.raw, valid := true,
        sb := Vector.replicate 32 0, sbLen := 0,
        spos := s.spos + 1, disc := 0, nfrm := s.nfrm + 1,
        nrsy := if s.disc = 0 then s.nrsy else s.nrsy + 1,
        ldisc := if s.disc = 0 then s.ldisc else s.disc,
        lsevt := .accepted (decide (s.disc ≠ 0)), lsoff := s.spos - 31,
        rspCode := .ok, rspData := if s.disc = 0 then 0x01 else 0x11 }

/-- R143, R146, R142: the byte that completes a window which fails validation rejects it with
TerminatorMismatch or ChecksumMismatch and the event word; the record is kept; the window loses its first byte
and every further byte that cannot start a frame, `d` in all, each counted in DISC. -/
def Obligations.SpushRejectsABadWindow : Prop :=
  ∀ (s : State) (b : Byte), s.SyncInv → s.eof = false → s.sbLen = 31 →
    let w := s.sb.set 31 b
    (b ≠ 0xAA#8 ∨ (w[30]).toNat ≠ (∑ k : Fin 30, (w[k.val]).toNat) % 256) →
    let mayStart (d : Nat) : Prop :=
      w.toList.getD d 0 = 0x5A#8 ∧ (d = 31 ∨ w.toList.getD (d + 1) 0 = 0xA5#8)
    ∃ (t : State) (d : Nat), exec (.spush b) s = .next t ∧
      1 ≤ d ∧ d ≤ 32 ∧ (d = 32 ∨ mayStart d) ∧ (∀ e, 1 ≤ e → e < d → ¬ mayStart e) ∧
      (∀ k : Fin 32, t.sb[k] = w.toList.getD (k.val + d) 0) ∧
      t = { s with
        sb := t.sb, sbLen := 32 - d, spos := s.spos + 1, disc := s.disc + BitVec.ofNat 32 d,
        nrej := s.nrej + 1, lsoff := s.spos - 31,
        lsevt := if b ≠ 0xAA#8 then .rejectedTerminator else .rejectedChecksum,
        rspCode := if b ≠ 0xAA#8 then .terminatorMismatch else .checksumMismatch,
        rspData := if b ≠ 0xAA#8 then 0x02 else 0x03,
        sticky := s.sticky ||| (if b ≠ 0xAA#8 then 0x008#9 else 0x010#9) }

/-- R141, the spec's own inference: inside the synchronizer only TerminatorMismatch and ChecksumMismatch can
reject a window: while the stream is open, SPUSH answers OK or one of the two. -/
def Obligations.OnlyTerminatorOrChecksumRejectAWindow : Prop :=
  ∀ (s t : State) (b : Byte), s.SyncInv → s.eof = false → exec (.spush b) s = .next t →
    t.rspCode = .ok ∨ t.rspCode = .terminatorMismatch ∨ t.rspCode = .checksumMismatch

/-- R147: the first SEOF drops the buffered bytes into DISC, sets EOF and answers their number; a later one
changes nothing but the response. -/
def Obligations.SeofDropsTheBufferedBytes : Prop :=
  (∀ s : State, s.eof = false → exec .seof s = .next { s with
    disc := s.disc + BitVec.ofNat 32 s.sbLen, sb := Vector.replicate 32 0, sbLen := 0, eof := true,
    rspCode := .ok, rspData := BitVec.ofNat 32 s.sbLen }) ∧
  (∀ s : State, s.eof = true → exec .seof s = .next { s with rspCode := .ok, rspData := 0 })

/-- R148: SRESTART returns all synchronizer state to reset and touches nothing else but the response. -/
def Obligations.SrestartResetsTheSynchronizer : Prop :=
  ∀ s : State, exec .srestart s = .next { s with
    sb := Vector.replicate 32 0, sbLen := 0, spos := 0, eof := false, disc := 0,
    nfrm := 0, nrej := 0, nrsy := 0, lsevt := .noWindow, lsoff := 0, ldisc := 0,
    rspCode := .ok, rspData := 0 }

/-- R140, the spec's own inference from R142 and R143: after any prefix of a stream has been pushed, the
windows evaluated are exactly `sync_ref` of that prefix, in the same order, with the same offsets (modulo
2^32, R26) and verdicts. -/
def Obligations.WindowsEvaluatedAreThoseOfSyncRef : Prop :=
  ∀ (stream : List Byte) (s : State), s.StreamStart →
    ∃ (t : State) (windows : List (Word32 × ResultCode)),
      feedStream stream s = some (t, windows) ∧
      windows = (syncRef stream).map fun w => (BitVec.ofNat 32 w.1, w.2)

/-- R151 (a), the spec's own inference: a valid frame, five garbage bytes without a 5A A5 pair, and a valid
frame give two accepted windows, no rejected one, and one resync event, at offset 37 after 5 discarded bytes.
-/
def Obligations.GarbageBetweenFramesIsOneResync : Prop :=
  ∀ (s : State) (f g : Buf) (garbage : List Byte), s.StreamStart →
    validate f 32 = .ok → validate g 32 = .ok → garbage.length = 5 →
    (∀ k, k < 4 → ¬ (garbage.getD k 0 = 0x5A#8 ∧ garbage.getD (k + 1) 0 = 0xA5#8)) →
    ∃ (t : State) (windows : List (Word32 × ResultCode)),
      feedStream (f.toList ++ garbage ++ g.toList) s = some (t, windows) ∧
      windows = [(0, .ok), (37, .ok)] ∧
      t.nfrm = 2 ∧ t.nrej = 0 ∧ t.nrsy = 1 ∧ t.ldisc = 5 ∧ t.lsoff = 37 ∧ t.lsevt.word = 0x11 ∧
      t.disc = 0 ∧ t.sbLen = 0 ∧ t.valid = true ∧ t.stat = frameStat g ∧ t.raw = frameRaw g

/-! ### Invariants -/

/-- The state after reset meets every invariant (R34, R25). -/
def Obligations.ResetMeetsTheInvariants : Prop := State.reset.Inv

/-- R25, the spec's own inference: the sync-buffer invariant holds after reset, CLEAR establishes it from any
state, and every step keeps it, whatever the host does (the host's inputs are log entries 1 and 2). -/
def Obligations.EveryStepKeepsTheSyncBufferInvariant : Prop :=
  State.reset.SyncInv ∧
  (∀ s t : State, exec .clear s = .next t → t.SyncInv) ∧
  ∀ s t : State, s.SyncInv → step s = .next t → t.SyncInv

/-- R23, R29, R24 with R133, R147: every step keeps the bound and the zero tail of the frame buffer, the
hard-wired STICKY bit 0, the validity of the output buffer, and an empty sync buffer after the end of the
stream, each by itself. The host's inputs are log entries 1 and 2. -/
def Obligations.EveryStepKeepsTheOtherInvariants : Prop :=
  (∀ s t : State, s.FrameBufInv → step s = .next t → t.FrameBufInv) ∧
  (∀ s t : State, s.StickyInv → step s = .next t → t.StickyInv) ∧
  (∀ s t : State, s.OutputInv → step s = .next t → t.OutputInv) ∧
  (∀ s t : State, s.EofInv → step s = .next t → t.EofInv)

/-! ### Rules about all commands -/

/-- R183: a command word that finishes with a non-OK code changes no state except RSP_CODE, RSP_DATA and STICKY,
with two exceptions: (a) a failing DECODE also clears VALID, and (b) an SPUSH that rejects a window (one of an
open stream) keeps the push and the rejection. -/
def Obligations.AFailingCommandChangesNothingElse : Prop :=
  (∀ (w : CmdWord) (s t : State), s.issue w = .next t → t.rspCode ≠ .ok →
    (∀ b, decode w = .command (.spush b) → s.eof = true) →
    t = { s with
      valid := if decode w = .command .decode then false else s.valid,
      rspCode := t.rspCode, rspData := 0,
      sticky := s.sticky ||| BitVec.twoPow 9 t.rspCode.num }) ∧
  (∀ (b : Byte) (s t : State), s.SyncInv → s.eof = false → exec (.spush b) s = .next t →
    t.rspCode ≠ .ok → t.spos = s.spos + 1 ∧ t.nrej = s.nrej + 1 ∧ t.lsoff = s.spos - 31)

/-- R182, R29, R186: every command but CLEAR and CLRSTK leaves in STICKY what was there, and the bit of its own
code where the code is not OK; CLEAR and CLRSTK zero it; and the data of a failing command is 0, unless it is an
SPUSH. -/
def Obligations.StickyAccumulatesTheCodes : Prop :=
  ∀ (i : Instr) (s t : State), exec i s = .next t →
    (i ≠ .clear → i ≠ .clrstk → t.sticky =
      if t.rspCode = .ok then s.sticky else s.sticky ||| BitVec.twoPow 9 t.rspCode.num) ∧
    (i = .clear ∨ i = .clrstk → t.sticky = 0 ∧ t.rspCode = .ok) ∧
    (t.rspCode ≠ .ok → (∀ b, i ≠ .spush b) → t.rspData = 0)

/-- R21: the commands that write STAT, RAW or VALID are DECODE, SPUSH, WSTAT, WRAW, WSCALED and CLEAR; no other
command does. -/
def Obligations.OnlyTheNamedCommandsWriteTheRecord : Prop :=
  ∀ (i : Instr) (s t : State), exec i s = .next t →
    i ∉ [.decode, .clear] → (∀ b, i ≠ .spush b) → (∀ sel b, i ≠ .wstat sel b) →
    (∀ sel h, i ≠ .wraw sel h) → (∀ sel p, i ≠ .wscaled sel p) →
    t.stat = s.stat ∧ t.raw = s.raw ∧ t.valid = s.valid

/-- R22: a command that leaves VALID 1 either left VALID and the record as they were, or is a DECODE or an
accepting SPUSH that loaded the record from a frame that passed all four checks: the frame buffer, or, where the
sync-buffer invariant (R25) holds, the window of the 31 buffered bytes and the pushed byte. VALID is cleared by a
failing DECODE, by WSTAT, WRAW and WSCALED with code OK, and by CLEAR, and by no other command. -/
def Obligations.ValidCertifiesAValidatedFrame : Prop :=
  ∀ (i : Instr) (s t : State), exec i s = .next t →
    let clears : Prop :=
      (i = .decode ∧ t.rspCode ≠ .ok) ∨ i = .clear ∨
      (t.rspCode = .ok ∧ ((∃ sel b, i = .wstat sel b) ∨ (∃ sel h, i = .wraw sel h) ∨
        ∃ sel p, i = .wscaled sel p))
    (t.valid = true →
      (s.valid = true ∧ t.stat = s.stat ∧ t.raw = s.raw) ∨
      (i = .decode ∧ s.fbLen = 32 ∧ validate s.fb 32 = .ok ∧
        t.stat = frameStat s.fb ∧ t.raw = frameRaw s.fb) ∨
      (∃ b : Byte, i = .spush b ∧ s.eof = false ∧ t.nfrm = s.nfrm + 1 ∧
        (s.SyncInv → s.sbLen = 31 ∧ validate (s.sb.set 31 b) 32 = .ok ∧
          t.stat = frameStat (s.sb.set 31 b) ∧ t.raw = frameRaw (s.sb.set 31 b)))) ∧
    (clears → t.valid = false) ∧
    (s.valid = true → t.valid = false → clears)

/-- R152: SPUSH, SEOF, SRESTART and RDSB neither write nor read FB, FB_LEN and OB: run from a state with any
other contents there, they do the same to everything else. -/
def Obligations.TheSynchronizerIgnoresTheDecodersBuffers : Prop :=
  ∀ (i : Instr) (s t : State) (fb ob : Buf) (n : Nat),
    ((∃ b, i = .spush b) ∨ i = .seof ∨ i = .srestart ∨ (∃ sel, i = .rdsb sel)) →
    exec i s = .next t →
    t.fb = s.fb ∧ t.fbLen = s.fbLen ∧ t.ob = s.ob ∧
    exec i { s with fb := fb, fbLen := n, ob := ob } =
      .next { t with fb := fb, fbLen := n, ob := ob }

/-- R152: DECODE, FPUSH, FCLR and FCOPY never touch the synchronizer's state. -/
def Obligations.TheDecoderLeavesTheSynchronizerAlone : Prop :=
  ∀ (i : Instr) (s t : State),
    (i = .decode ∨ (∃ b, i = .fpush b) ∨ i = .fclr ∨ i = .fcopy) → exec i s = .next t →
    t.sb = s.sb ∧ t.sbLen = s.sbLen ∧ t.spos = s.spos ∧ t.eof = s.eof ∧ t.disc = s.disc ∧
    t.nfrm = s.nfrm ∧ t.nrej = s.nrej ∧ t.nrsy = s.nrsy ∧
    t.lsevt = s.lsevt ∧ t.lsoff = s.lsoff ∧ t.ldisc = s.ldisc

/-- R48: the read commands have no side effect apart from the response port, and STICKY when they raise
BadSelect; reading twice gives the same. -/
def Obligations.ReadsHaveNoSideEffect : Prop :=
  ∀ (i : Instr) (s t : State),
    (∃ sel, i = .rdraw sel ∨ i = .rdscaled sel ∨ i = .rdstat sel ∨ i = .rdob sel ∨ i = .rdimg sel ∨
      i = .rdfb sel ∨ i = .rdsb sel ∨ i = .rdcsr sel) →
    exec i s = .next t →
    (t.rspCode = .ok ∧ t = { s with rspCode := .ok, rspData := t.rspData } ∨
      t = { s with
        rspCode := .badSelect, rspData := 0, sticky := s.sticky ||| 0x040#9 }) ∧
    exec i t = .next t

/-- R86, the spec's own inference: DECODE twice with no write in between gives the same response and the same
record. -/
def Obligations.DecodeIsIdempotent : Prop :=
  ∀ s t : State, exec .decode s = .next t → exec .decode t = .next t

/-- R27, R28: only SPUSH, SRESTART and CLEAR change the event counters and the last-event registers; and SPUSH
counts at most one window, accepted or rejected (R142). -/
def Obligations.OneWindowPerPushAndNoOtherCounts : Prop :=
  ∀ (i : Instr) (s t : State), exec i s = .next t →
    ((∀ b, i ≠ .spush b) → i ≠ .srestart → i ≠ .clear →
      t.nfrm = s.nfrm ∧ t.nrej = s.nrej ∧ t.nrsy = s.nrsy ∧
      t.lsevt = s.lsevt ∧ t.lsoff = s.lsoff ∧ t.ldisc = s.ldisc) ∧
    (∀ b, i = .spush b → s.SyncInv →
      (t.nfrm = s.nfrm ∧ t.nrej = s.nrej ∧ t.nrsy = s.nrsy ∧
        t.lsevt = s.lsevt ∧ t.lsoff = s.lsoff ∧ t.ldisc = s.ldisc) ∨
      (t.nfrm = s.nfrm + 1 ∧ t.nrej = s.nrej) ∨
      (t.nfrm = s.nfrm ∧ t.nrej = s.nrej + 1 ∧ t.nrsy = s.nrsy ∧ t.ldisc = s.ldisc))

/-- R24, R23: only ENCODE and CLEAR write OB; only FCLR, FPUSH, FCOPY and CLEAR write FB and FB_LEN. -/
def Obligations.OnlyTheNamedCommandsWriteTheBuffers : Prop :=
  ∀ (i : Instr) (s t : State), exec i s = .next t → i ≠ .clear →
    (i ≠ .encode → t.ob = s.ob) ∧
    (i ≠ .fclr → i ≠ .fcopy → (∀ b, i ≠ .fpush b) → t.fb = s.fb ∧ t.fbLen = s.fbLen)

/-- R26: SPOS counts the bytes SPUSH accepted, and nothing but SPUSH, SRESTART and CLEAR moves it; EOF is set
only by SEOF and cleared only by SRESTART and CLEAR. -/
def Obligations.PositionAndEndOfStreamWriters : Prop :=
  ∀ (i : Instr) (s t : State), exec i s = .next t →
    (i = .srestart ∨ i = .clear → t.spos = 0 ∧ t.eof = false) ∧
    (∀ b, i = .spush b → t.eof = s.eof ∧ t.spos = if s.eof = true then s.spos else s.spos + 1) ∧
    (i = .seof → t.spos = s.spos ∧ t.eof = true) ∧
    (i ≠ .srestart → i ≠ .clear → (∀ b, i ≠ .spush b) → i ≠ .seof →
      t.spos = s.spos ∧ t.eof = s.eof)

/-- R53, R206: no command stores or reads what the host does next, or the level of the reset input (the model's
own fields, log entries 1 and 2). -/
def Obligations.CommandsDoNotTouchTheHostsSide : Prop :=
  ∀ (i : Instr) (s t : State) (held : Bool) (rest : List HostEvent), exec i s = .next t →
    t.resetHeld = s.resetHeld ∧ t.pending = s.pending ∧
    exec i { s with resetHeld := held, pending := rest } =
      .next { t with resetHeld := held, pending := rest }

/-! ### Platform and assembler -/

/-- R191: in every interleaving of the steps of NINST instances, each instance does what it does alone in as
many steps of its own; instances share nothing. What a step is is log entry 1, the platform log entry 11. -/
def Obligations.PlatformInstancesAreIndependent : Prop :=
  ∀ (n : Nat) (order : List (Fin n)) (p : Platform n),
    ∃ q, platformRun order p = .next q ∧
      ∀ k : Fin n, Sys2Proof.core.run (order.count k) p[k] = .next q[k]

/-- R69, R64, on the model's reading of the text (log entry 13): every word that the assembler emits for a
line is a command, none is illegal. -/
def Obligations.TheAssemblerEmitsOnlyCommands : Prop :=
  ∀ (line : Text) (words : List CmdWord), assembleLine line = .ok words →
    ∀ w ∈ words, ∃ i, i.wf = true ∧ decode w = .command i
end

