-- ==== Sys2Proof/Laws/Decode.lean ====
section
/-! SUPPORT. The fields of an assembled word, its masking, and the opcode map's lookup. -/

namespace Sys2Proof

/-- Bit `k` of an assembled word, field by field (30_encoding.md R60). -/
theorem getLsbD_assembleWord (opc sel : Byte) (rsv : BitVec 16) (data : Word32) (k : Nat) :
    (assembleWord opc sel rsv data).getLsbD k =
      if k < 32 then data.getLsbD k
      else if k < 48 then rsv.getLsbD (k - 32)
      else if k < 56 then sel.getLsbD (k - 48)
      else opc.getLsbD (k - 56) := by
  have hd := data.getLsbD_of_ge k
  have hr := rsv.getLsbD_of_ge (k - 32)
  have hs := sel.getLsbD_of_ge (k - 48)
  have ho := opc.getLsbD_of_ge (k - 56)
  simp only [assembleWord, BitVec.getLsbD_or, BitVec.getLsbD_shiftLeft,
    BitVec.getLsbD_setWidth]
  by_cases h1 : k < 32
  · simp [h1, show k < 48 by omega, show k < 56 by omega, show k < 64 by omega]
  by_cases h2 : k < 48
  · simp [h1, h2, show k < 56 by omega, show k < 64 by omega, hd (by omega), show k - 32 < 64 by omega]
  by_cases h3 : k < 56
  · simp [h1, h2, h3, show k < 64 by omega, hd (by omega), hr (by omega), show k - 48 < 64 by omega]
  by_cases h4 : k < 64
  · simp [h1, h2, h3, h4, hd (by omega), hr (by omega), hs (by omega), show k - 56 < 64 by omega]
  · simp [h1, h2, h3, h4, hd (by omega), ho (by omega)]

@[simp] theorem opcField_assembleWord (opc sel : Byte) (rsv : BitVec 16) (data : Word32) :
    opcField (assembleWord opc sel rsv data) = opc := by
  ext k hk
  rw [opcField, BitVec.getElem_extractLsb', getLsbD_assembleWord, if_neg (by omega),
    if_neg (by omega), if_neg (by omega), Nat.add_sub_cancel_left, BitVec.getLsbD_eq_getElem hk]

@[simp] theorem selField_assembleWord (opc sel : Byte) (rsv : BitVec 16) (data : Word32) :
    selField (assembleWord opc sel rsv data) = sel := by
  ext k hk
  rw [selField, BitVec.getElem_extractLsb', getLsbD_assembleWord, if_neg (by omega),
    if_neg (by omega), if_pos (by omega), Nat.add_sub_cancel_left, BitVec.getLsbD_eq_getElem hk]

@[simp] theorem rsvField_assembleWord (opc sel : Byte) (rsv : BitVec 16) (data : Word32) :
    rsvField (assembleWord opc sel rsv data) = rsv := by
  ext k hk
  rw [rsvField, BitVec.getElem_extractLsb', getLsbD_assembleWord, if_neg (by omega),
    if_pos (by omega), Nat.add_sub_cancel_left, BitVec.getLsbD_eq_getElem hk]

@[simp] theorem dataField_assembleWord (opc sel : Byte) (rsv : BitVec 16) (data : Word32) :
    dataField (assembleWord opc sel rsv data) = data := by
  ext k hk
  rw [dataField, BitVec.getElem_extractLsb', getLsbD_assembleWord, if_pos (by omega), Nat.zero_add,
    BitVec.getLsbD_eq_getElem hk]

/-- A word is the assembly of its four fields (R60). -/
theorem assembleWord_fields (w : CmdWord) :
    assembleWord (opcField w) (selField w) (rsvField w) (dataField w) = w := by
  apply BitVec.eq_of_getLsbD_eq
  intro k hk
  simp only [getLsbD_assembleWord, opcField, selField, rsvField, dataField, BitVec.getLsbD_extractLsb']
  split
  · simp [*]
  · split
    · simp [show k - 32 < 16 by omega, show 32 + (k - 32) = k by omega]
    · split
      · simp [show k - 48 < 8 by omega, show 48 + (k - 48) = k by omega]
      · simp [show k - 56 < 8 by omega, show 56 + (k - 56) = k by omega]

/-- Masking is field by field. -/
theorem assembleWord_and (opc sel opc' sel' : Byte) (rsv rsv' : BitVec 16) (data data' : Word32) :
    assembleWord opc sel rsv data &&& assembleWord opc' sel' rsv' data' =
      assembleWord (opc &&& opc') (sel &&& sel') (rsv &&& rsv') (data &&& data') := by
  apply BitVec.eq_of_getLsbD_eq
  intro k hk
  simp only [BitVec.getLsbD_and, getLsbD_assembleWord]
  split_ifs <;> rfl

/-- Two assembled words are equal exactly when their fields are. -/
theorem assembleWord_inj {opc sel opc' sel' : Byte} {rsv rsv' : BitVec 16} {data data' : Word32} :
    assembleWord opc sel rsv data = assembleWord opc' sel' rsv' data' ↔
      opc = opc' ∧ sel = sel' ∧ rsv = rsv' ∧ data = data' := by
  constructor
  · intro h
    exact ⟨by simpa using congrArg opcField h, by simpa using congrArg selField h,
      by simpa using congrArg rsvField h, by simpa using congrArg dataField h⟩
  · rintro ⟨rfl, rfl, rfl, rfl⟩; rfl

/-- R64's match, field by field: the OPC byte is the opcode's, RSV is zero, and so are the bits of SEL and
DATA that the class does not use. -/
theorem matches_iff (w : CmdWord) (o : Opcode) :
    w &&& o.row.cls.mask = o.matchValue ↔
      opcField w = o.row.opc ∧ selField w &&& o.row.cls.selMask = 0 ∧ rsvField w = 0 ∧
        dataField w &&& o.row.cls.dataMask = 0 := by
  conv_lhs => rw [← assembleWord_fields w]
  rw [CmdClass.mask, Opcode.matchValue, assembleWord_and, assembleWord_inj]
  have h8 (b : Byte) : b &&& 0xFF = b := by
    rw [show (0xFF : Byte) = BitVec.allOnes 8 from rfl, BitVec.and_allOnes]
  have h16 (b : BitVec 16) : b &&& 0xFFFF = b := by
    rw [show (0xFFFF : BitVec 16) = BitVec.allOnes 16 from rfl, BitVec.and_allOnes]
  rw [h8, h16]

/-- Every opcode is found under its own byte (30_encoding.md R63). -/
@[simp] theorem lookupOpcode_opc (o : Opcode) : lookupOpcode o.row.opc = some o := by
  cases o <;> decide

/-- An opcode that is found has the byte that was looked up. -/
theorem lookupOpcode_some {b : Byte} {o : Opcode} (h : lookupOpcode b = some o) : o.row.opc = b := by
  simpa using List.find?_some h

end Sys2Proof
end

