-- ==== Sys2Proof/Laws/State.lean ====
section
/-! SUPPORT. One lemma per field per named update of the state, each true by rfl, so that no proof unfolds a
record update; and the derived operations rewritten to the named updates. -/

namespace Sys2Proof.Machine

variable (s : State)

/-! ### Derived operations -/

@[simp] theorem State.finish_ok (d : Word32) : s.finish .ok d = s.respond .ok d := rfl
@[simp] theorem State.finishSpush_eq (c : ResultCode) (d : Word32) : s.finishSpush c d = s.respond c d := rfl
@[simp] theorem State.clearSb_eq : s.clearSb = s.setSb Buf.zero 0 := rfl
@[simp] theorem State.dropSb_eq : s.dropSb = s.setSb s.sb.shiftDown (s.sbLen - 1) := rfl
@[simp] theorem State.appendSb_eq (b : Byte) : s.appendSb b = s.setSb (s.sb.store s.sbLen b) (s.sbLen + 1) := rfl
@[simp] theorem State.discard_eq : s.discard = (s.setSb s.sb.shiftDown (s.sbLen - 1)).addDisc 1 := rfl
@[simp] theorem State.extract_eq (f : Buf) : s.extract f = s.setRecord (frameStat f) (frameRaw f) := rfl

/-- A failing command's data is 0 (60_exceptions.md R182). -/
theorem State.finish_error (c : ResultCode) (d : Word32) (h : c ≠ .ok) :
    s.finish c d = s.respond c 0 := by
  simp [State.finish, h]

/-- Raising an error is a response with data 0. -/
@[simp] theorem State.raise_eq (c : ResultCode) : s.raise c = s.respond c 0 := by
  cases c <;> rfl

/-! ### setValid -/

@[simp] theorem State.setValid_stat (v : Bool) : (s.setValid v).stat = s.stat := rfl
@[simp] theorem State.setValid_raw (v : Bool) : (s.setValid v).raw = s.raw := rfl
@[simp] theorem State.setValid_valid (v : Bool) : (s.setValid v).valid = v := rfl
@[simp] theorem State.setValid_fb (v : Bool) : (s.setValid v).fb = s.fb := rfl
@[simp] theorem State.setValid_fbLen (v : Bool) : (s.setValid v).fbLen = s.fbLen := rfl
@[simp] theorem State.setValid_ob (v : Bool) : (s.setValid v).ob = s.ob := rfl
@[simp] theorem State.setValid_sb (v : Bool) : (s.setValid v).sb = s.sb := rfl
@[simp] theorem State.setValid_sbLen (v : Bool) : (s.setValid v).sbLen = s.sbLen := rfl
@[simp] theorem State.setValid_spos (v : Bool) : (s.setValid v).spos = s.spos := rfl
@[simp] theorem State.setValid_eof (v : Bool) : (s.setValid v).eof = s.eof := rfl
@[simp] theorem State.setValid_disc (v : Bool) : (s.setValid v).disc = s.disc := rfl
@[simp] theorem State.setValid_nfrm (v : Bool) : (s.setValid v).nfrm = s.nfrm := rfl
@[simp] theorem State.setValid_nrej (v : Bool) : (s.setValid v).nrej = s.nrej := rfl
@[simp] theorem State.setValid_nrsy (v : Bool) : (s.setValid v).nrsy = s.nrsy := rfl
@[simp] theorem State.setValid_lsevt (v : Bool) : (s.setValid v).lsevt = s.lsevt := rfl
@[simp] theorem State.setValid_lsoff (v : Bool) : (s.setValid v).lsoff = s.lsoff := rfl
@[simp] theorem State.setValid_ldisc (v : Bool) : (s.setValid v).ldisc = s.ldisc := rfl
@[simp] theorem State.setValid_rspCode (v : Bool) : (s.setValid v).rspCode = s.rspCode := rfl
@[simp] theorem State.setValid_rspData (v : Bool) : (s.setValid v).rspData = s.rspData := rfl
@[simp] theorem State.setValid_sticky (v : Bool) : (s.setValid v).sticky = s.sticky := rfl
@[simp] theorem State.setValid_resetHeld (v : Bool) : (s.setValid v).resetHeld = s.resetHeld := rfl
@[simp] theorem State.setValid_pending (v : Bool) : (s.setValid v).pending = s.pending := rfl

/-! ### setEof -/

@[simp] theorem State.setEof_stat (v : Bool) : (s.setEof v).stat = s.stat := rfl
@[simp] theorem State.setEof_raw (v : Bool) : (s.setEof v).raw = s.raw := rfl
@[simp] theorem State.setEof_valid (v : Bool) : (s.setEof v).valid = s.valid := rfl
@[simp] theorem State.setEof_fb (v : Bool) : (s.setEof v).fb = s.fb := rfl
@[simp] theorem State.setEof_fbLen (v : Bool) : (s.setEof v).fbLen = s.fbLen := rfl
@[simp] theorem State.setEof_ob (v : Bool) : (s.setEof v).ob = s.ob := rfl
@[simp] theorem State.setEof_sb (v : Bool) : (s.setEof v).sb = s.sb := rfl
@[simp] theorem State.setEof_sbLen (v : Bool) : (s.setEof v).sbLen = s.sbLen := rfl
@[simp] theorem State.setEof_spos (v : Bool) : (s.setEof v).spos = s.spos := rfl
@[simp] theorem State.setEof_eof (v : Bool) : (s.setEof v).eof = v := rfl
@[simp] theorem State.setEof_disc (v : Bool) : (s.setEof v).disc = s.disc := rfl
@[simp] theorem State.setEof_nfrm (v : Bool) : (s.setEof v).nfrm = s.nfrm := rfl
@[simp] theorem State.setEof_nrej (v : Bool) : (s.setEof v).nrej = s.nrej := rfl
@[simp] theorem State.setEof_nrsy (v : Bool) : (s.setEof v).nrsy = s.nrsy := rfl
@[simp] theorem State.setEof_lsevt (v : Bool) : (s.setEof v).lsevt = s.lsevt := rfl
@[simp] theorem State.setEof_lsoff (v : Bool) : (s.setEof v).lsoff = s.lsoff := rfl
@[simp] theorem State.setEof_ldisc (v : Bool) : (s.setEof v).ldisc = s.ldisc := rfl
@[simp] theorem State.setEof_rspCode (v : Bool) : (s.setEof v).rspCode = s.rspCode := rfl
@[simp] theorem State.setEof_rspData (v : Bool) : (s.setEof v).rspData = s.rspData := rfl
@[simp] theorem State.setEof_sticky (v : Bool) : (s.setEof v).sticky = s.sticky := rfl
@[simp] theorem State.setEof_resetHeld (v : Bool) : (s.setEof v).resetHeld = s.resetHeld := rfl
@[simp] theorem State.setEof_pending (v : Bool) : (s.setEof v).pending = s.pending := rfl

/-! ### clearSticky -/

@[simp] theorem State.clearSticky_stat : (s.clearSticky).stat = s.stat := rfl
@[simp] theorem State.clearSticky_raw : (s.clearSticky).raw = s.raw := rfl
@[simp] theorem State.clearSticky_valid : (s.clearSticky).valid = s.valid := rfl
@[simp] theorem State.clearSticky_fb : (s.clearSticky).fb = s.fb := rfl
@[simp] theorem State.clearSticky_fbLen : (s.clearSticky).fbLen = s.fbLen := rfl
@[simp] theorem State.clearSticky_ob : (s.clearSticky).ob = s.ob := rfl
@[simp] theorem State.clearSticky_sb : (s.clearSticky).sb = s.sb := rfl
@[simp] theorem State.clearSticky_sbLen : (s.clearSticky).sbLen = s.sbLen := rfl
@[simp] theorem State.clearSticky_spos : (s.clearSticky).spos = s.spos := rfl
@[simp] theorem State.clearSticky_eof : (s.clearSticky).eof = s.eof := rfl
@[simp] theorem State.clearSticky_disc : (s.clearSticky).disc = s.disc := rfl
@[simp] theorem State.clearSticky_nfrm : (s.clearSticky).nfrm = s.nfrm := rfl
@[simp] theorem State.clearSticky_nrej : (s.clearSticky).nrej = s.nrej := rfl
@[simp] theorem State.clearSticky_nrsy : (s.clearSticky).nrsy = s.nrsy := rfl
@[simp] theorem State.clearSticky_lsevt : (s.clearSticky).lsevt = s.lsevt := rfl
@[simp] theorem State.clearSticky_lsoff : (s.clearSticky).lsoff = s.lsoff := rfl
@[simp] theorem State.clearSticky_ldisc : (s.clearSticky).ldisc = s.ldisc := rfl
@[simp] theorem State.clearSticky_rspCode : (s.clearSticky).rspCode = s.rspCode := rfl
@[simp] theorem State.clearSticky_rspData : (s.clearSticky).rspData = s.rspData := rfl
@[simp] theorem State.clearSticky_sticky : (s.clearSticky).sticky = 0 := rfl
@[simp] theorem State.clearSticky_resetHeld : (s.clearSticky).resetHeld = s.resetHeld := rfl
@[simp] theorem State.clearSticky_pending : (s.clearSticky).pending = s.pending := rfl

/-! ### respond -/

@[simp] theorem State.respond_stat (c : ResultCode) (d : Word32) : (s.respond c d).stat = s.stat := rfl
@[simp] theorem State.respond_raw (c : ResultCode) (d : Word32) : (s.respond c d).raw = s.raw := rfl
@[simp] theorem State.respond_valid (c : ResultCode) (d : Word32) : (s.respond c d).valid = s.valid := rfl
@[simp] theorem State.respond_fb (c : ResultCode) (d : Word32) : (s.respond c d).fb = s.fb := rfl
@[simp] theorem State.respond_fbLen (c : ResultCode) (d : Word32) : (s.respond c d).fbLen = s.fbLen := rfl
@[simp] theorem State.respond_ob (c : ResultCode) (d : Word32) : (s.respond c d).ob = s.ob := rfl
@[simp] theorem State.respond_sb (c : ResultCode) (d : Word32) : (s.respond c d).sb = s.sb := rfl
@[simp] theorem State.respond_sbLen (c : ResultCode) (d : Word32) : (s.respond c d).sbLen = s.sbLen := rfl
@[simp] theorem State.respond_spos (c : ResultCode) (d : Word32) : (s.respond c d).spos = s.spos := rfl
@[simp] theorem State.respond_eof (c : ResultCode) (d : Word32) : (s.respond c d).eof = s.eof := rfl
@[simp] theorem State.respond_disc (c : ResultCode) (d : Word32) : (s.respond c d).disc = s.disc := rfl
@[simp] theorem State.respond_nfrm (c : ResultCode) (d : Word32) : (s.respond c d).nfrm = s.nfrm := rfl
@[simp] theorem State.respond_nrej (c : ResultCode) (d : Word32) : (s.respond c d).nrej = s.nrej := rfl
@[simp] theorem State.respond_nrsy (c : ResultCode) (d : Word32) : (s.respond c d).nrsy = s.nrsy := rfl
@[simp] theorem State.respond_lsevt (c : ResultCode) (d : Word32) : (s.respond c d).lsevt = s.lsevt := rfl
@[simp] theorem State.respond_lsoff (c : ResultCode) (d : Word32) : (s.respond c d).lsoff = s.lsoff := rfl
@[simp] theorem State.respond_ldisc (c : ResultCode) (d : Word32) : (s.respond c d).ldisc = s.ldisc := rfl
@[simp] theorem State.respond_rspCode (c : ResultCode) (d : Word32) : (s.respond c d).rspCode = c := rfl
@[simp] theorem State.respond_rspData (c : ResultCode) (d : Word32) : (s.respond c d).rspData = d := rfl
@[simp] theorem State.respond_sticky (c : ResultCode) (d : Word32) :
    (s.respond c d).sticky = stickyAfter c s.sticky := rfl
@[simp] theorem State.respond_resetHeld (c : ResultCode) (d : Word32) :
    (s.respond c d).resetHeld = s.resetHeld := rfl
@[simp] theorem State.respond_pending (c : ResultCode) (d : Word32) :
    (s.respond c d).pending = s.pending := rfl

/-! ### setStat -/

@[simp] theorem State.setStat_stat (j : Fin 2) (b : Byte) : (s.setStat j b).stat = s.stat.set j b := rfl
@[simp] theorem State.setStat_raw (j : Fin 2) (b : Byte) : (s.setStat j b).raw = s.raw := rfl
@[simp] theorem State.setStat_valid (j : Fin 2) (b : Byte) : (s.setStat j b).valid = s.valid := rfl
@[simp] theorem State.setStat_fb (j : Fin 2) (b : Byte) : (s.setStat j b).fb = s.fb := rfl
@[simp] theorem State.setStat_fbLen (j : Fin 2) (b : Byte) : (s.setStat j b).fbLen = s.fbLen := rfl
@[simp] theorem State.setStat_ob (j : Fin 2) (b : Byte) : (s.setStat j b).ob = s.ob := rfl
@[simp] theorem State.setStat_sb (j : Fin 2) (b : Byte) : (s.setStat j b).sb = s.sb := rfl
@[simp] theorem State.setStat_sbLen (j : Fin 2) (b : Byte) : (s.setStat j b).sbLen = s.sbLen := rfl
@[simp] theorem State.setStat_spos (j : Fin 2) (b : Byte) : (s.setStat j b).spos = s.spos := rfl
@[simp] theorem State.setStat_eof (j : Fin 2) (b : Byte) : (s.setStat j b).eof = s.eof := rfl
@[simp] theorem State.setStat_disc (j : Fin 2) (b : Byte) : (s.setStat j b).disc = s.disc := rfl
@[simp] theorem State.setStat_nfrm (j : Fin 2) (b : Byte) : (s.setStat j b).nfrm = s.nfrm := rfl
@[simp] theorem State.setStat_nrej (j : Fin 2) (b : Byte) : (s.setStat j b).nrej = s.nrej := rfl
@[simp] theorem State.setStat_nrsy (j : Fin 2) (b : Byte) : (s.setStat j b).nrsy = s.nrsy := rfl
@[simp] theorem State.setStat_lsevt (j : Fin 2) (b : Byte) : (s.setStat j b).lsevt = s.lsevt := rfl
@[simp] theorem State.setStat_lsoff (j : Fin 2) (b : Byte) : (s.setStat j b).lsoff = s.lsoff := rfl
@[simp] theorem State.setStat_ldisc (j : Fin 2) (b : Byte) : (s.setStat j b).ldisc = s.ldisc := rfl
@[simp] theorem State.setStat_rspCode (j : Fin 2) (b : Byte) : (s.setStat j b).rspCode = s.rspCode := rfl
@[simp] theorem State.setStat_rspData (j : Fin 2) (b : Byte) : (s.setStat j b).rspData = s.rspData := rfl
@[simp] theorem State.setStat_sticky (j : Fin 2) (b : Byte) : (s.setStat j b).sticky = s.sticky := rfl
@[simp] theorem State.setStat_resetHeld (j : Fin 2) (b : Byte) :
    (s.setStat j b).resetHeld = s.resetHeld := rfl
@[simp] theorem State.setStat_pending (j : Fin 2) (b : Byte) : (s.setStat j b).pending = s.pending := rfl

/-! ### setRaw -/

@[simp] theorem State.setRaw_stat (i : Fin 12) (h : Half) : (s.setRaw i h).stat = s.stat := rfl
@[simp] theorem State.setRaw_raw (i : Fin 12) (h : Half) : (s.setRaw i h).raw = s.raw.set i h := rfl
@[simp] theorem State.setRaw_valid (i : Fin 12) (h : Half) : (s.setRaw i h).valid = s.valid := rfl
@[simp] theorem State.setRaw_fb (i : Fin 12) (h : Half) : (s.setRaw i h).fb = s.fb := rfl
@[simp] theorem State.setRaw_fbLen (i : Fin 12) (h : Half) : (s.setRaw i h).fbLen = s.fbLen := rfl
@[simp] theorem State.setRaw_ob (i : Fin 12) (h : Half) : (s.setRaw i h).ob = s.ob := rfl
@[simp] theorem State.setRaw_sb (i : Fin 12) (h : Half) : (s.setRaw i h).sb = s.sb := rfl
@[simp] theorem State.setRaw_sbLen (i : Fin 12) (h : Half) : (s.setRaw i h).sbLen = s.sbLen := rfl
@[simp] theorem State.setRaw_spos (i : Fin 12) (h : Half) : (s.setRaw i h).spos = s.spos := rfl
@[simp] theorem State.setRaw_eof (i : Fin 12) (h : Half) : (s.setRaw i h).eof = s.eof := rfl
@[simp] theorem State.setRaw_disc (i : Fin 12) (h : Half) : (s.setRaw i h).disc = s.disc := rfl
@[simp] theorem State.setRaw_nfrm (i : Fin 12) (h : Half) : (s.setRaw i h).nfrm = s.nfrm := rfl
@[simp] theorem State.setRaw_nrej (i : Fin 12) (h : Half) : (s.setRaw i h).nrej = s.nrej := rfl
@[simp] theorem State.setRaw_nrsy (i : Fin 12) (h : Half) : (s.setRaw i h).nrsy = s.nrsy := rfl
@[simp] theorem State.setRaw_lsevt (i : Fin 12) (h : Half) : (s.setRaw i h).lsevt = s.lsevt := rfl
@[simp] theorem State.setRaw_lsoff (i : Fin 12) (h : Half) : (s.setRaw i h).lsoff = s.lsoff := rfl
@[simp] theorem State.setRaw_ldisc (i : Fin 12) (h : Half) : (s.setRaw i h).ldisc = s.ldisc := rfl
@[simp] theorem State.setRaw_rspCode (i : Fin 12) (h : Half) : (s.setRaw i h).rspCode = s.rspCode := rfl
@[simp] theorem State.setRaw_rspData (i : Fin 12) (h : Half) : (s.setRaw i h).rspData = s.rspData := rfl
@[simp] theorem State.setRaw_sticky (i : Fin 12) (h : Half) : (s.setRaw i h).sticky = s.sticky := rfl
@[simp] theorem State.setRaw_resetHeld (i : Fin 12) (h : Half) : (s.setRaw i h).resetHeld = s.resetHeld := rfl
@[simp] theorem State.setRaw_pending (i : Fin 12) (h : Half) : (s.setRaw i h).pending = s.pending := rfl

/-! ### setRecord -/

@[simp] theorem State.setRecord_stat (st : Vector Byte 2) (rw : Vector Half 12) :
    (s.setRecord st rw).stat = st := rfl
@[simp] theorem State.setRecord_raw (st : Vector Byte 2) (rw : Vector Half 12) :
    (s.setRecord st rw).raw = rw := rfl
@[simp] theorem State.setRecord_valid (st : Vector Byte 2) (rw : Vector Half 12) :
    (s.setRecord st rw).valid = s.valid := rfl
@[simp] theorem State.setRecord_fb (st : Vector Byte 2) (rw : Vector Half 12) :
    (s.setRecord st rw).fb = s.fb := rfl
@[simp] theorem State.setRecord_fbLen (st : Vector Byte 2) (rw : Vector Half 12) :
    (s.setRecord st rw).fbLen = s.fbLen := rfl
@[simp] theorem State.setRecord_ob (st : Vector Byte 2) (rw : Vector Half 12) :
    (s.setRecord st rw).ob = s.ob := rfl
@[simp] theorem State.setRecord_sb (st : Vector Byte 2) (rw : Vector Half 12) :
    (s.setRecord st rw).sb = s.sb := rfl
@[simp] theorem State.setRecord_sbLen (st : Vector Byte 2) (rw : Vector Half 12) :
    (s.setRecord st rw).sbLen = s.sbLen := rfl
@[simp] theorem State.setRecord_spos (st : Vector Byte 2) (rw : Vector Half 12) :
    (s.setRecord st rw).spos = s.spos := rfl
@[simp] theorem State.setRecord_eof (st : Vector Byte 2) (rw : Vector Half 12) :
    (s.setRecord st rw).eof = s.eof := rfl
@[simp] theorem State.setRecord_disc (st : Vector Byte 2) (rw : Vector Half 12) :
    (s.setRecord st rw).disc = s.disc := rfl
@[simp] theorem State.setRecord_nfrm (st : Vector Byte 2) (rw : Vector Half 12) :
    (s.setRecord st rw).nfrm = s.nfrm := rfl
@[simp] theorem State.setRecord_nrej (st : Vector Byte 2) (rw : Vector Half 12) :
    (s.setRecord st rw).nrej = s.nrej := rfl
@[simp] theorem State.setRecord_nrsy (st : Vector Byte 2) (rw : Vector Half 12) :
    (s.setRecord st rw).nrsy = s.nrsy := rfl
@[simp] theorem State.setRecord_lsevt (st : Vector Byte 2) (rw : Vector Half 12) :
    (s.setRecord st rw).lsevt = s.lsevt := rfl
@[simp] theorem State.setRecord_lsoff (st : Vector Byte 2) (rw : Vector Half 12) :
    (s.setRecord st rw).lsoff = s.lsoff := rfl
@[simp] theorem State.setRecord_ldisc (st : Vector Byte 2) (rw : Vector Half 12) :
    (s.setRecord st rw).ldisc = s.ldisc := rfl
@[simp] theorem State.setRecord_rspCode (st : Vector Byte 2) (rw : Vector Half 12) :
    (s.setRecord st rw).rspCode = s.rspCode := rfl
@[simp] theorem State.setRecord_rspData (st : Vector Byte 2) (rw : Vector Half 12) :
    (s.setRecord st rw).rspData = s.rspData := rfl
@[simp] theorem State.setRecord_sticky (st : Vector Byte 2) (rw : Vector Half 12) :
    (s.setRecord st rw).sticky = s.sticky := rfl
@[simp] theorem State.setRecord_resetHeld (st : Vector Byte 2) (rw : Vector Half 12) :
    (s.setRecord st rw).resetHeld = s.resetHeld := rfl
@[simp] theorem State.setRecord_pending (st : Vector Byte 2) (rw : Vector Half 12) :
    (s.setRecord st rw).pending = s.pending := rfl

/-! ### setFb -/

@[simp] theorem State.setFb_stat (v : Buf) (n : Nat) : (s.setFb v n).stat = s.stat := rfl
@[simp] theorem State.setFb_raw (v : Buf) (n : Nat) : (s.setFb v n).raw = s.raw := rfl
@[simp] theorem State.setFb_valid (v : Buf) (n : Nat) : (s.setFb v n).valid = s.valid := rfl
@[simp] theorem State.setFb_fb (v : Buf) (n : Nat) : (s.setFb v n).fb = v := rfl
@[simp] theorem State.setFb_fbLen (v : Buf) (n : Nat) : (s.setFb v n).fbLen = n := rfl
@[simp] theorem State.setFb_ob (v : Buf) (n : Nat) : (s.setFb v n).ob = s.ob := rfl
@[simp] theorem State.setFb_sb (v : Buf) (n : Nat) : (s.setFb v n).sb = s.sb := rfl
@[simp] theorem State.setFb_sbLen (v : Buf) (n : Nat) : (s.setFb v n).sbLen = s.sbLen := rfl
@[simp] theorem State.setFb_spos (v : Buf) (n : Nat) : (s.setFb v n).spos = s.spos := rfl
@[simp] theorem State.setFb_eof (v : Buf) (n : Nat) : (s.setFb v n).eof = s.eof := rfl
@[simp] theorem State.setFb_disc (v : Buf) (n : Nat) : (s.setFb v n).disc = s.disc := rfl
@[simp] theorem State.setFb_nfrm (v : Buf) (n : Nat) : (s.setFb v n).nfrm = s.nfrm := rfl
@[simp] theorem State.setFb_nrej (v : Buf) (n : Nat) : (s.setFb v n).nrej = s.nrej := rfl
@[simp] theorem State.setFb_nrsy (v : Buf) (n : Nat) : (s.setFb v n).nrsy = s.nrsy := rfl
@[simp] theorem State.setFb_lsevt (v : Buf) (n : Nat) : (s.setFb v n).lsevt = s.lsevt := rfl
@[simp] theorem State.setFb_lsoff (v : Buf) (n : Nat) : (s.setFb v n).lsoff = s.lsoff := rfl
@[simp] theorem State.setFb_ldisc (v : Buf) (n : Nat) : (s.setFb v n).ldisc = s.ldisc := rfl
@[simp] theorem State.setFb_rspCode (v : Buf) (n : Nat) : (s.setFb v n).rspCode = s.rspCode := rfl
@[simp] theorem State.setFb_rspData (v : Buf) (n : Nat) : (s.setFb v n).rspData = s.rspData := rfl
@[simp] theorem State.setFb_sticky (v : Buf) (n : Nat) : (s.setFb v n).sticky = s.sticky := rfl
@[simp] theorem State.setFb_resetHeld (v : Buf) (n : Nat) : (s.setFb v n).resetHeld = s.resetHeld := rfl
@[simp] theorem State.setFb_pending (v : Buf) (n : Nat) : (s.setFb v n).pending = s.pending := rfl

/-! ### setOb -/

@[simp] theorem State.setOb_stat (v : Buf) : (s.setOb v).stat = s.stat := rfl
@[simp] theorem State.setOb_raw (v : Buf) : (s.setOb v).raw = s.raw := rfl
@[simp] theorem State.setOb_valid (v : Buf) : (s.setOb v).valid = s.valid := rfl
@[simp] theorem State.setOb_fb (v : Buf) : (s.setOb v).fb = s.fb := rfl
@[simp] theorem State.setOb_fbLen (v : Buf) : (s.setOb v).fbLen = s.fbLen := rfl
@[simp] theorem State.setOb_ob (v : Buf) : (s.setOb v).ob = v := rfl
@[simp] theorem State.setOb_sb (v : Buf) : (s.setOb v).sb = s.sb := rfl
@[simp] theorem State.setOb_sbLen (v : Buf) : (s.setOb v).sbLen = s.sbLen := rfl
@[simp] theorem State.setOb_spos (v : Buf) : (s.setOb v).spos = s.spos := rfl
@[simp] theorem State.setOb_eof (v : Buf) : (s.setOb v).eof = s.eof := rfl
@[simp] theorem State.setOb_disc (v : Buf) : (s.setOb v).disc = s.disc := rfl
@[simp] theorem State.setOb_nfrm (v : Buf) : (s.setOb v).nfrm = s.nfrm := rfl
@[simp] theorem State.setOb_nrej (v : Buf) : (s.setOb v).nrej = s.nrej := rfl
@[simp] theorem State.setOb_nrsy (v : Buf) : (s.setOb v).nrsy = s.nrsy := rfl
@[simp] theorem State.setOb_lsevt (v : Buf) : (s.setOb v).lsevt = s.lsevt := rfl
@[simp] theorem State.setOb_lsoff (v : Buf) : (s.setOb v).lsoff = s.lsoff := rfl
@[simp] theorem State.setOb_ldisc (v : Buf) : (s.setOb v).ldisc = s.ldisc := rfl
@[simp] theorem State.setOb_rspCode (v : Buf) : (s.setOb v).rspCode = s.rspCode := rfl
@[simp] theorem State.setOb_rspData (v : Buf) : (s.setOb v).rspData = s.rspData := rfl
@[simp] theorem State.setOb_sticky (v : Buf) : (s.setOb v).sticky = s.sticky := rfl
@[simp] theorem State.setOb_resetHeld (v : Buf) : (s.setOb v).resetHeld = s.resetHeld := rfl
@[simp] theorem State.setOb_pending (v : Buf) : (s.setOb v).pending = s.pending := rfl

/-! ### setSb -/

@[simp] theorem State.setSb_stat (v : Buf) (n : Nat) : (s.setSb v n).stat = s.stat := rfl
@[simp] theorem State.setSb_raw (v : Buf) (n : Nat) : (s.setSb v n).raw = s.raw := rfl
@[simp] theorem State.setSb_valid (v : Buf) (n : Nat) : (s.setSb v n).valid = s.valid := rfl
@[simp] theorem State.setSb_fb (v : Buf) (n : Nat) : (s.setSb v n).fb = s.fb := rfl
@[simp] theorem State.setSb_fbLen (v : Buf) (n : Nat) : (s.setSb v n).fbLen = s.fbLen := rfl
@[simp] theorem State.setSb_ob (v : Buf) (n : Nat) : (s.setSb v n).ob = s.ob := rfl
@[simp] theorem State.setSb_sb (v : Buf) (n : Nat) : (s.setSb v n).sb = v := rfl
@[simp] theorem State.setSb_sbLen (v : Buf) (n : Nat) : (s.setSb v n).sbLen = n := rfl
@[simp] theorem State.setSb_spos (v : Buf) (n : Nat) : (s.setSb v n).spos = s.spos := rfl
@[simp] theorem State.setSb_eof (v : Buf) (n : Nat) : (s.setSb v n).eof = s.eof := rfl
@[simp] theorem State.setSb_disc (v : Buf) (n : Nat) : (s.setSb v n).disc = s.disc := rfl
@[simp] theorem State.setSb_nfrm (v : Buf) (n : Nat) : (s.setSb v n).nfrm = s.nfrm := rfl
@[simp] theorem State.setSb_nrej (v : Buf) (n : Nat) : (s.setSb v n).nrej = s.nrej := rfl
@[simp] theorem State.setSb_nrsy (v : Buf) (n : Nat) : (s.setSb v n).nrsy = s.nrsy := rfl
@[simp] theorem State.setSb_lsevt (v : Buf) (n : Nat) : (s.setSb v n).lsevt = s.lsevt := rfl
@[simp] theorem State.setSb_lsoff (v : Buf) (n : Nat) : (s.setSb v n).lsoff = s.lsoff := rfl
@[simp] theorem State.setSb_ldisc (v : Buf) (n : Nat) : (s.setSb v n).ldisc = s.ldisc := rfl
@[simp] theorem State.setSb_rspCode (v : Buf) (n : Nat) : (s.setSb v n).rspCode = s.rspCode := rfl
@[simp] theorem State.setSb_rspData (v : Buf) (n : Nat) : (s.setSb v n).rspData = s.rspData := rfl
@[simp] theorem State.setSb_sticky (v : Buf) (n : Nat) : (s.setSb v n).sticky = s.sticky := rfl
@[simp] theorem State.setSb_resetHeld (v : Buf) (n : Nat) : (s.setSb v n).resetHeld = s.resetHeld := rfl
@[simp] theorem State.setSb_pending (v : Buf) (n : Nat) : (s.setSb v n).pending = s.pending := rfl

/-! ### countPush -/

@[simp] theorem State.countPush_stat : (s.countPush).stat = s.stat := rfl
@[simp] theorem State.countPush_raw : (s.countPush).raw = s.raw := rfl
@[simp] theorem State.countPush_valid : (s.countPush).valid = s.valid := rfl
@[simp] theorem State.countPush_fb : (s.countPush).fb = s.fb := rfl
@[simp] theorem State.countPush_fbLen : (s.countPush).fbLen = s.fbLen := rfl
@[simp] theorem State.countPush_ob : (s.countPush).ob = s.ob := rfl
@[simp] theorem State.countPush_sb : (s.countPush).sb = s.sb := rfl
@[simp] theorem State.countPush_sbLen : (s.countPush).sbLen = s.sbLen := rfl
@[simp] theorem State.countPush_spos : (s.countPush).spos = s.spos + 1 := rfl
@[simp] theorem State.countPush_eof : (s.countPush).eof = s.eof := rfl
@[simp] theorem State.countPush_disc : (s.countPush).disc = s.disc := rfl
@[simp] theorem State.countPush_nfrm : (s.countPush).nfrm = s.nfrm := rfl
@[simp] theorem State.countPush_nrej : (s.countPush).nrej = s.nrej := rfl
@[simp] theorem State.countPush_nrsy : (s.countPush).nrsy = s.nrsy := rfl
@[simp] theorem State.countPush_lsevt : (s.countPush).lsevt = s.lsevt := rfl
@[simp] theorem State.countPush_lsoff : (s.countPush).lsoff = s.lsoff := rfl
@[simp] theorem State.countPush_ldisc : (s.countPush).ldisc = s.ldisc := rfl
@[simp] theorem State.countPush_rspCode : (s.countPush).rspCode = s.rspCode := rfl
@[simp] theorem State.countPush_rspData : (s.countPush).rspData = s.rspData := rfl
@[simp] theorem State.countPush_sticky : (s.countPush).sticky = s.sticky := rfl
@[simp] theorem State.countPush_resetHeld : (s.countPush).resetHeld = s.resetHeld := rfl
@[simp] theorem State.countPush_pending : (s.countPush).pending = s.pending := rfl

/-! ### addDisc -/

@[simp] theorem State.addDisc_stat (n : Nat) : (s.addDisc n).stat = s.stat := rfl
@[simp] theorem State.addDisc_raw (n : Nat) : (s.addDisc n).raw = s.raw := rfl
@[simp] theorem State.addDisc_valid (n : Nat) : (s.addDisc n).valid = s.valid := rfl
@[simp] theorem State.addDisc_fb (n : Nat) : (s.addDisc n).fb = s.fb := rfl
@[simp] theorem State.addDisc_fbLen (n : Nat) : (s.addDisc n).fbLen = s.fbLen := rfl
@[simp] theorem State.addDisc_ob (n : Nat) : (s.addDisc n).ob = s.ob := rfl
@[simp] theorem State.addDisc_sb (n : Nat) : (s.addDisc n).sb = s.sb := rfl
@[simp] theorem State.addDisc_sbLen (n : Nat) : (s.addDisc n).sbLen = s.sbLen := rfl
@[simp] theorem State.addDisc_spos (n : Nat) : (s.addDisc n).spos = s.spos := rfl
@[simp] theorem State.addDisc_eof (n : Nat) : (s.addDisc n).eof = s.eof := rfl
@[simp] theorem State.addDisc_disc (n : Nat) : (s.addDisc n).disc = s.disc + BitVec.ofNat 32 n := rfl
@[simp] theorem State.addDisc_nfrm (n : Nat) : (s.addDisc n).nfrm = s.nfrm := rfl
@[simp] theorem State.addDisc_nrej (n : Nat) : (s.addDisc n).nrej = s.nrej := rfl
@[simp] theorem State.addDisc_nrsy (n : Nat) : (s.addDisc n).nrsy = s.nrsy := rfl
@[simp] theorem State.addDisc_lsevt (n : Nat) : (s.addDisc n).lsevt = s.lsevt := rfl
@[simp] theorem State.addDisc_lsoff (n : Nat) : (s.addDisc n).lsoff = s.lsoff := rfl
@[simp] theorem State.addDisc_ldisc (n : Nat) : (s.addDisc n).ldisc = s.ldisc := rfl
@[simp] theorem State.addDisc_rspCode (n : Nat) : (s.addDisc n).rspCode = s.rspCode := rfl
@[simp] theorem State.addDisc_rspData (n : Nat) : (s.addDisc n).rspData = s.rspData := rfl
@[simp] theorem State.addDisc_sticky (n : Nat) : (s.addDisc n).sticky = s.sticky := rfl
@[simp] theorem State.addDisc_resetHeld (n : Nat) : (s.addDisc n).resetHeld = s.resetHeld := rfl
@[simp] theorem State.addDisc_pending (n : Nat) : (s.addDisc n).pending = s.pending := rfl

/-! ### restartSync -/

@[simp] theorem State.restartSync_stat : (s.restartSync).stat = s.stat := rfl
@[simp] theorem State.restartSync_raw : (s.restartSync).raw = s.raw := rfl
@[simp] theorem State.restartSync_valid : (s.restartSync).valid = s.valid := rfl
@[simp] theorem State.restartSync_fb : (s.restartSync).fb = s.fb := rfl
@[simp] theorem State.restartSync_fbLen : (s.restartSync).fbLen = s.fbLen := rfl
@[simp] theorem State.restartSync_ob : (s.restartSync).ob = s.ob := rfl
@[simp] theorem State.restartSync_sb : (s.restartSync).sb = Buf.zero := rfl
@[simp] theorem State.restartSync_sbLen : (s.restartSync).sbLen = 0 := rfl
@[simp] theorem State.restartSync_spos : (s.restartSync).spos = 0 := rfl
@[simp] theorem State.restartSync_eof : (s.restartSync).eof = false := rfl
@[simp] theorem State.restartSync_disc : (s.restartSync).disc = 0 := rfl
@[simp] theorem State.restartSync_nfrm : (s.restartSync).nfrm = 0 := rfl
@[simp] theorem State.restartSync_nrej : (s.restartSync).nrej = 0 := rfl
@[simp] theorem State.restartSync_nrsy : (s.restartSync).nrsy = 0 := rfl
@[simp] theorem State.restartSync_lsevt : (s.restartSync).lsevt = SyncEvent.noWindow := rfl
@[simp] theorem State.restartSync_lsoff : (s.restartSync).lsoff = 0 := rfl
@[simp] theorem State.restartSync_ldisc : (s.restartSync).ldisc = 0 := rfl
@[simp] theorem State.restartSync_rspCode : (s.restartSync).rspCode = s.rspCode := rfl
@[simp] theorem State.restartSync_rspData : (s.restartSync).rspData = s.rspData := rfl
@[simp] theorem State.restartSync_sticky : (s.restartSync).sticky = s.sticky := rfl
@[simp] theorem State.restartSync_resetHeld : (s.restartSync).resetHeld = s.resetHeld := rfl
@[simp] theorem State.restartSync_pending : (s.restartSync).pending = s.pending := rfl

/-! ### setResetHeld -/

@[simp] theorem State.setResetHeld_stat (v : Bool) : (s.setResetHeld v).stat = s.stat := rfl
@[simp] theorem State.setResetHeld_raw (v : Bool) : (s.setResetHeld v).raw = s.raw := rfl
@[simp] theorem State.setResetHeld_valid (v : Bool) : (s.setResetHeld v).valid = s.valid := rfl
@[simp] theorem State.setResetHeld_fb (v : Bool) : (s.setResetHeld v).fb = s.fb := rfl
@[simp] theorem State.setResetHeld_fbLen (v : Bool) : (s.setResetHeld v).fbLen = s.fbLen := rfl
@[simp] theorem State.setResetHeld_ob (v : Bool) : (s.setResetHeld v).ob = s.ob := rfl
@[simp] theorem State.setResetHeld_sb (v : Bool) : (s.setResetHeld v).sb = s.sb := rfl
@[simp] theorem State.setResetHeld_sbLen (v : Bool) : (s.setResetHeld v).sbLen = s.sbLen := rfl
@[simp] theorem State.setResetHeld_spos (v : Bool) : (s.setResetHeld v).spos = s.spos := rfl
@[simp] theorem State.setResetHeld_eof (v : Bool) : (s.setResetHeld v).eof = s.eof := rfl
@[simp] theorem State.setResetHeld_disc (v : Bool) : (s.setResetHeld v).disc = s.disc := rfl
@[simp] theorem State.setResetHeld_nfrm (v : Bool) : (s.setResetHeld v).nfrm = s.nfrm := rfl
@[simp] theorem State.setResetHeld_nrej (v : Bool) : (s.setResetHeld v).nrej = s.nrej := rfl
@[simp] theorem State.setResetHeld_nrsy (v : Bool) : (s.setResetHeld v).nrsy = s.nrsy := rfl
@[simp] theorem State.setResetHeld_lsevt (v : Bool) : (s.setResetHeld v).lsevt = s.lsevt := rfl
@[simp] theorem State.setResetHeld_lsoff (v : Bool) : (s.setResetHeld v).lsoff = s.lsoff := rfl
@[simp] theorem State.setResetHeld_ldisc (v : Bool) : (s.setResetHeld v).ldisc = s.ldisc := rfl
@[simp] theorem State.setResetHeld_rspCode (v : Bool) : (s.setResetHeld v).rspCode = s.rspCode := rfl
@[simp] theorem State.setResetHeld_rspData (v : Bool) : (s.setResetHeld v).rspData = s.rspData := rfl
@[simp] theorem State.setResetHeld_sticky (v : Bool) : (s.setResetHeld v).sticky = s.sticky := rfl
@[simp] theorem State.setResetHeld_resetHeld (v : Bool) : (s.setResetHeld v).resetHeld = v := rfl
@[simp] theorem State.setResetHeld_pending (v : Bool) : (s.setResetHeld v).pending = s.pending := rfl

/-! ### setPending -/

@[simp] theorem State.setPending_stat (v : List HostEvent) : (s.setPending v).stat = s.stat := rfl
@[simp] theorem State.setPending_raw (v : List HostEvent) : (s.setPending v).raw = s.raw := rfl
@[simp] theorem State.setPending_valid (v : List HostEvent) : (s.setPending v).valid = s.valid := rfl
@[simp] theorem State.setPending_fb (v : List HostEvent) : (s.setPending v).fb = s.fb := rfl
@[simp] theorem State.setPending_fbLen (v : List HostEvent) : (s.setPending v).fbLen = s.fbLen := rfl
@[simp] theorem State.setPending_ob (v : List HostEvent) : (s.setPending v).ob = s.ob := rfl
@[simp] theorem State.setPending_sb (v : List HostEvent) : (s.setPending v).sb = s.sb := rfl
@[simp] theorem State.setPending_sbLen (v : List HostEvent) : (s.setPending v).sbLen = s.sbLen := rfl
@[simp] theorem State.setPending_spos (v : List HostEvent) : (s.setPending v).spos = s.spos := rfl
@[simp] theorem State.setPending_eof (v : List HostEvent) : (s.setPending v).eof = s.eof := rfl
@[simp] theorem State.setPending_disc (v : List HostEvent) : (s.setPending v).disc = s.disc := rfl
@[simp] theorem State.setPending_nfrm (v : List HostEvent) : (s.setPending v).nfrm = s.nfrm := rfl
@[simp] theorem State.setPending_nrej (v : List HostEvent) : (s.setPending v).nrej = s.nrej := rfl
@[simp] theorem State.setPending_nrsy (v : List HostEvent) : (s.setPending v).nrsy = s.nrsy := rfl
@[simp] theorem State.setPending_lsevt (v : List HostEvent) : (s.setPending v).lsevt = s.lsevt := rfl
@[simp] theorem State.setPending_lsoff (v : List HostEvent) : (s.setPending v).lsoff = s.lsoff := rfl
@[simp] theorem State.setPending_ldisc (v : List HostEvent) : (s.setPending v).ldisc = s.ldisc := rfl
@[simp] theorem State.setPending_rspCode (v : List HostEvent) : (s.setPending v).rspCode = s.rspCode := rfl
@[simp] theorem State.setPending_rspData (v : List HostEvent) : (s.setPending v).rspData = s.rspData := rfl
@[simp] theorem State.setPending_sticky (v : List HostEvent) : (s.setPending v).sticky = s.sticky := rfl
@[simp] theorem State.setPending_resetHeld (v : List HostEvent) :
    (s.setPending v).resetHeld = s.resetHeld := rfl
@[simp] theorem State.setPending_pending (v : List HostEvent) : (s.setPending v).pending = v := rfl

/-! ### accept -/

@[simp] theorem State.accept_stat (base : Word32) : (s.accept base).stat = frameStat s.sb := rfl
@[simp] theorem State.accept_raw (base : Word32) : (s.accept base).raw = frameRaw s.sb := rfl
@[simp] theorem State.accept_valid (base : Word32) : (s.accept base).valid = true := rfl
@[simp] theorem State.accept_fb (base : Word32) : (s.accept base).fb = s.fb := rfl
@[simp] theorem State.accept_fbLen (base : Word32) : (s.accept base).fbLen = s.fbLen := rfl
@[simp] theorem State.accept_ob (base : Word32) : (s.accept base).ob = s.ob := rfl
@[simp] theorem State.accept_sb (base : Word32) : (s.accept base).sb = Buf.zero := rfl
@[simp] theorem State.accept_sbLen (base : Word32) : (s.accept base).sbLen = 0 := rfl
@[simp] theorem State.accept_spos (base : Word32) : (s.accept base).spos = s.spos := rfl
@[simp] theorem State.accept_eof (base : Word32) : (s.accept base).eof = s.eof := rfl
@[simp] theorem State.accept_disc (base : Word32) : (s.accept base).disc = 0 := rfl
@[simp] theorem State.accept_nfrm (base : Word32) : (s.accept base).nfrm = s.nfrm + 1 := rfl
@[simp] theorem State.accept_nrej (base : Word32) : (s.accept base).nrej = s.nrej := rfl
@[simp] theorem State.accept_nrsy (base : Word32) :
    (s.accept base).nrsy = if isResync s.disc then s.nrsy + 1 else s.nrsy := rfl
@[simp] theorem State.accept_lsevt (base : Word32) :
    (s.accept base).lsevt = SyncEvent.accepted (isResync s.disc) := rfl
@[simp] theorem State.accept_lsoff (base : Word32) : (s.accept base).lsoff = base := rfl
@[simp] theorem State.accept_ldisc (base : Word32) :
    (s.accept base).ldisc = if isResync s.disc then s.disc else s.ldisc := rfl
@[simp] theorem State.accept_rspCode (base : Word32) : (s.accept base).rspCode = s.rspCode := rfl
@[simp] theorem State.accept_rspData (base : Word32) : (s.accept base).rspData = s.rspData := rfl
@[simp] theorem State.accept_sticky (base : Word32) : (s.accept base).sticky = s.sticky := rfl
@[simp] theorem State.accept_resetHeld (base : Word32) : (s.accept base).resetHeld = s.resetHeld := rfl
@[simp] theorem State.accept_pending (base : Word32) : (s.accept base).pending = s.pending := rfl

/-! ### reject -/

@[simp] theorem State.reject_stat (base : Word32) (r : ResultCode) : (s.reject base r).stat = s.stat := rfl
@[simp] theorem State.reject_raw (base : Word32) (r : ResultCode) : (s.reject base r).raw = s.raw := rfl
@[simp] theorem State.reject_valid (base : Word32) (r : ResultCode) : (s.reject base r).valid = s.valid := rfl
@[simp] theorem State.reject_fb (base : Word32) (r : ResultCode) : (s.reject base r).fb = s.fb := rfl
@[simp] theorem State.reject_fbLen (base : Word32) (r : ResultCode) : (s.reject base r).fbLen = s.fbLen := rfl
@[simp] theorem State.reject_ob (base : Word32) (r : ResultCode) : (s.reject base r).ob = s.ob := rfl
@[simp] theorem State.reject_sb (base : Word32) (r : ResultCode) : (s.reject base r).sb = s.sb := rfl
@[simp] theorem State.reject_sbLen (base : Word32) (r : ResultCode) : (s.reject base r).sbLen = s.sbLen := rfl
@[simp] theorem State.reject_spos (base : Word32) (r : ResultCode) : (s.reject base r).spos = s.spos := rfl
@[simp] theorem State.reject_eof (base : Word32) (r : ResultCode) : (s.reject base r).eof = s.eof := rfl
@[simp] theorem State.reject_disc (base : Word32) (r : ResultCode) : (s.reject base r).disc = s.disc := rfl
@[simp] theorem State.reject_nfrm (base : Word32) (r : ResultCode) : (s.reject base r).nfrm = s.nfrm := rfl
@[simp] theorem State.reject_nrej (base : Word32) (r : ResultCode) :
    (s.reject base r).nrej = s.nrej + 1 := rfl
@[simp] theorem State.reject_nrsy (base : Word32) (r : ResultCode) : (s.reject base r).nrsy = s.nrsy := rfl
@[simp] theorem State.reject_lsevt (base : Word32) (r : ResultCode) :
    (s.reject base r).lsevt = rejectEvent r := rfl
@[simp] theorem State.reject_lsoff (base : Word32) (r : ResultCode) : (s.reject base r).lsoff = base := rfl
@[simp] theorem State.reject_ldisc (base : Word32) (r : ResultCode) : (s.reject base r).ldisc = s.ldisc := rfl
@[simp] theorem State.reject_rspCode (base : Word32) (r : ResultCode) :
    (s.reject base r).rspCode = s.rspCode := rfl
@[simp] theorem State.reject_rspData (base : Word32) (r : ResultCode) :
    (s.reject base r).rspData = s.rspData := rfl
@[simp] theorem State.reject_sticky (base : Word32) (r : ResultCode) :
    (s.reject base r).sticky = s.sticky := rfl
@[simp] theorem State.reject_resetHeld (base : Word32) (r : ResultCode) :
    (s.reject base r).resetHeld = s.resetHeld := rfl
@[simp] theorem State.reject_pending (base : Word32) (r : ResultCode) :
    (s.reject base r).pending = s.pending := rfl

/-! ### resetElements -/

/-- CLEAR's effect on the elements (45_control.md R161): all of them at reset, the host's side kept. -/
theorem State.resetElements_eq :
    s.resetElements = { State.reset with resetHeld := s.resetHeld, pending := s.pending } := rfl

@[simp] theorem State.resetElements_stat : s.resetElements.stat = State.reset.stat := rfl
@[simp] theorem State.resetElements_raw : s.resetElements.raw = State.reset.raw := rfl
@[simp] theorem State.resetElements_valid : s.resetElements.valid = State.reset.valid := rfl
@[simp] theorem State.resetElements_fb : s.resetElements.fb = State.reset.fb := rfl
@[simp] theorem State.resetElements_fbLen : s.resetElements.fbLen = State.reset.fbLen := rfl
@[simp] theorem State.resetElements_ob : s.resetElements.ob = State.reset.ob := rfl
@[simp] theorem State.resetElements_sb : s.resetElements.sb = State.reset.sb := rfl
@[simp] theorem State.resetElements_sbLen : s.resetElements.sbLen = State.reset.sbLen := rfl
@[simp] theorem State.resetElements_spos : s.resetElements.spos = State.reset.spos := rfl
@[simp] theorem State.resetElements_eof : s.resetElements.eof = State.reset.eof := rfl
@[simp] theorem State.resetElements_disc : s.resetElements.disc = State.reset.disc := rfl
@[simp] theorem State.resetElements_nfrm : s.resetElements.nfrm = State.reset.nfrm := rfl
@[simp] theorem State.resetElements_nrej : s.resetElements.nrej = State.reset.nrej := rfl
@[simp] theorem State.resetElements_nrsy : s.resetElements.nrsy = State.reset.nrsy := rfl
@[simp] theorem State.resetElements_lsevt : s.resetElements.lsevt = State.reset.lsevt := rfl
@[simp] theorem State.resetElements_lsoff : s.resetElements.lsoff = State.reset.lsoff := rfl
@[simp] theorem State.resetElements_ldisc : s.resetElements.ldisc = State.reset.ldisc := rfl
@[simp] theorem State.resetElements_rspCode : s.resetElements.rspCode = State.reset.rspCode := rfl
@[simp] theorem State.resetElements_rspData : s.resetElements.rspData = State.reset.rspData := rfl
@[simp] theorem State.resetElements_sticky : s.resetElements.sticky = State.reset.sticky := rfl
@[simp] theorem State.resetElements_resetHeld : s.resetElements.resetHeld = s.resetHeld := rfl
@[simp] theorem State.resetElements_pending : s.resetElements.pending = s.pending := rfl

/-! ### pushFb -/

/-- Below 32 bytes FPUSH stores its byte and counts it (41_checksum_validator.md R84). -/
theorem State.pushFb_room (b : Byte) (h : s.fbLen < 32) :
    s.pushFb b = s.setFb (s.fb.store s.fbLen b) (s.fbLen + 1) := by
  simp [State.pushFb, h]

/-- From 32 bytes on FPUSH stores nothing and FB_LEN becomes 33 (R84). -/
theorem State.pushFb_full (b : Byte) (h : 32 ≤ s.fbLen) : s.pushFb b = s.setFb s.fb 33 := by
  simp [State.pushFb, Nat.not_lt.mpr h]

@[simp] theorem State.pushFb_stat (b : Byte) : (s.pushFb b).stat = s.stat := by
  unfold State.pushFb; split <;> rfl
@[simp] theorem State.pushFb_raw (b : Byte) : (s.pushFb b).raw = s.raw := by
  unfold State.pushFb; split <;> rfl
@[simp] theorem State.pushFb_valid (b : Byte) : (s.pushFb b).valid = s.valid := by
  unfold State.pushFb; split <;> rfl
@[simp] theorem State.pushFb_ob (b : Byte) : (s.pushFb b).ob = s.ob := by
  unfold State.pushFb; split <;> rfl
@[simp] theorem State.pushFb_sb (b : Byte) : (s.pushFb b).sb = s.sb := by
  unfold State.pushFb; split <;> rfl
@[simp] theorem State.pushFb_sbLen (b : Byte) : (s.pushFb b).sbLen = s.sbLen := by
  unfold State.pushFb; split <;> rfl
@[simp] theorem State.pushFb_spos (b : Byte) : (s.pushFb b).spos = s.spos := by
  unfold State.pushFb; split <;> rfl
@[simp] theorem State.pushFb_eof (b : Byte) : (s.pushFb b).eof = s.eof := by
  unfold State.pushFb; split <;> rfl
@[simp] theorem State.pushFb_disc (b : Byte) : (s.pushFb b).disc = s.disc := by
  unfold State.pushFb; split <;> rfl
@[simp] theorem State.pushFb_nfrm (b : Byte) : (s.pushFb b).nfrm = s.nfrm := by
  unfold State.pushFb; split <;> rfl
@[simp] theorem State.pushFb_nrej (b : Byte) : (s.pushFb b).nrej = s.nrej := by
  unfold State.pushFb; split <;> rfl
@[simp] theorem State.pushFb_nrsy (b : Byte) : (s.pushFb b).nrsy = s.nrsy := by
  unfold State.pushFb; split <;> rfl
@[simp] theorem State.pushFb_lsevt (b : Byte) : (s.pushFb b).lsevt = s.lsevt := by
  unfold State.pushFb; split <;> rfl
@[simp] theorem State.pushFb_lsoff (b : Byte) : (s.pushFb b).lsoff = s.lsoff := by
  unfold State.pushFb; split <;> rfl
@[simp] theorem State.pushFb_ldisc (b : Byte) : (s.pushFb b).ldisc = s.ldisc := by
  unfold State.pushFb; split <;> rfl
@[simp] theorem State.pushFb_rspCode (b : Byte) : (s.pushFb b).rspCode = s.rspCode := by
  unfold State.pushFb; split <;> rfl
@[simp] theorem State.pushFb_rspData (b : Byte) : (s.pushFb b).rspData = s.rspData := by
  unfold State.pushFb; split <;> rfl
@[simp] theorem State.pushFb_sticky (b : Byte) : (s.pushFb b).sticky = s.sticky := by
  unfold State.pushFb; split <;> rfl
@[simp] theorem State.pushFb_resetHeld (b : Byte) : (s.pushFb b).resetHeld = s.resetHeld := by
  unfold State.pushFb; split <;> rfl
@[simp] theorem State.pushFb_pending (b : Byte) : (s.pushFb b).pending = s.pending := by
  unfold State.pushFb; split <;> rfl

end Sys2Proof.Machine
end

