-- ==== Sys2Proof/Laws/Ops.lean ====
section
/-! SUPPORT. What the shared operations do, once each: buffers, the selector check, the sticky mask, the
event word. -/

namespace Sys2Proof.Machine

/-! ### Buffers -/

@[simp] theorem Buf.zero_getElem (k : Nat) (h : k < 32) : Buf.zero[k] = 0#8 := by
  simp [Buf.zero]

/-- A store inside the buffer changes its own position only. -/
theorem Buf.store_getElem (v : Buf) (n k : Nat) (b : Byte) (h : k < 32) :
    (v.store n b)[k] = if n = k then b else v[k] := by
  simp [Buf.store, Vector.getElem_setIfInBounds]

/-- `drop1` moves every byte down by one and puts 0 at position 31. -/
theorem Buf.shiftDown_getElem (v : Buf) (k : Nat) (h : k < 32) :
    v.shiftDown[k] = if h' : k + 1 < 32 then v[k + 1] else 0#8 := by
  simp [Buf.shiftDown]

/-! ### The selector check (30_encoding.md R66, R67) -/

/-- Inside its range a selector runs the command's own rule. -/
theorem withSelect_lt {n sel : Nat} (h : sel < n) (rule : Fin n → State → State) (s : State) :
    withSelect n sel rule s = rule ⟨sel, h⟩ s := by
  simp [withSelect, h]

/-- At an index of the space, as a `Fin`. -/
@[simp] theorem withSelect_fin {n : Nat} (i : Fin n) (rule : Fin n → State → State) (s : State) :
    withSelect n i.val rule s = rule i s := by
  simp [withSelect]

/-- Outside its range it raises BadSelect. -/
theorem withSelect_ge {n sel : Nat} (h : n ≤ sel) (rule : Fin n → State → State) (s : State) :
    withSelect n sel rule s = s.respond .badSelect 0 := by
  simp [withSelect, Nat.not_lt.mpr h]

/-- Everything the check can do. -/
theorem withSelect_cases {n sel : Nat} (rule : Fin n → State → State) (s : State) :
    (∃ h : sel < n, withSelect n sel rule s = rule ⟨sel, h⟩ s) ∨
      (n ≤ sel ∧ withSelect n sel rule s = s.respond .badSelect 0) := by
  rcases Nat.lt_or_ge sel n with h | h
  · exact .inl ⟨h, withSelect_lt h rule s⟩
  · exact .inr ⟨h, withSelect_ge h rule s⟩

/-! ### The sticky mask and the event word -/

@[simp] theorem stickyAfter_ok (m : BitVec 9) : stickyAfter .ok m = m := rfl

/-- A failing code sets its own bit and keeps the others (60_exceptions.md R182). -/
theorem stickyAfter_error {c : ResultCode} (h : c ≠ .ok) (m : BitVec 9) :
    stickyAfter c m = m ||| BitVec.twoPow 9 c.num := by
  simp [stickyAfter, h]

/-- No code sets bit 0 (10_state.md R29). -/
theorem stickyAfter_bit_zero (c : ResultCode) (m : BitVec 9) :
    (stickyAfter c m).getLsbD 0 = m.getLsbD 0 := by
  cases c <;> simp [stickyAfter, ResultCode.num]

/-- Setting the same bit twice is setting it once. -/
theorem stickyAfter_twice (c : ResultCode) (m : BitVec 9) :
    stickyAfter c (stickyAfter c m) = stickyAfter c m := by
  by_cases h : c = .ok
  · simp [h]
  · simp [stickyAfter_error h, BitVec.or_assoc]

/-- The event word is never 0 once a window has been evaluated (44_synchronizer.md R143). -/
theorem SyncEvent.word_eq_zero_iff (e : SyncEvent) : e.word = 0 ↔ e = .noWindow := by
  cases e with
  | accepted rs => cases rs <;> simp [SyncEvent.word, SyncEvent.kind, SyncEvent.resync, flagBit]
  | noWindow => simp [SyncEvent.word, SyncEvent.kind, SyncEvent.resync, flagBit]
  | rejectedTerminator => simp [SyncEvent.word, SyncEvent.kind, SyncEvent.resync, flagBit]
  | rejectedChecksum => simp [SyncEvent.word, SyncEvent.kind, SyncEvent.resync, flagBit]

/-- An accept's event word (44_synchronizer.md R145). -/
theorem SyncEvent.word_accepted (rs : Bool) :
    (SyncEvent.accepted rs).word = if rs then 0x11#32 else 0x01#32 := by
  cases rs <;> rfl

/-- A reject's event word (44_synchronizer.md R146). -/
theorem rejectEvent_word (r : ResultCode) :
    (rejectEvent r).word = if r = .terminatorMismatch then 2#32 else 3#32 := by
  cases r <;> rfl

end Sys2Proof.Machine
end

