-- ==== Sys2Proof/Laws/Frame.lean ====
section
/-! SUPPORT. What validation says, and the bytes of an extracted record and of an encoded frame. -/

namespace Sys2Proof.Machine

/-- A sequence is valid exactly when all four checks pass (41_checksum_validator.md R81). -/
theorem validate_ok_iff (f : Buf) (n : Nat) :
    validate f n = .ok ↔
      n = 32 ∧ f[0] = sync0 ∧ f[1] = sync1 ∧ f[31] = termByte ∧ f[30] = csum f := by
  unfold validate
  by_cases h1 : n = 32 <;> by_cases h2 : f[0] = sync0 <;> by_cases h3 : f[1] = sync1 <;>
    by_cases h4 : f[31] = termByte <;> by_cases h5 : f[30] = csum f <;> simp [h1, h2, h3, h4, h5]

/-- Everything validation can answer, and when (R81, R82). -/
theorem validate_cases (f : Buf) (n : Nat) :
    (n ≠ 32 ∧ validate f n = .truncatedFrame) ∨
    (n = 32 ∧ (f[0] ≠ sync0 ∨ f[1] ≠ sync1) ∧ validate f n = .syncMismatch) ∨
    (n = 32 ∧ f[0] = sync0 ∧ f[1] = sync1 ∧ f[31] ≠ termByte ∧ validate f n = .terminatorMismatch) ∨
    (n = 32 ∧ f[0] = sync0 ∧ f[1] = sync1 ∧ f[31] = termByte ∧ f[30] ≠ csum f ∧
      validate f n = .checksumMismatch) ∨
    (n = 32 ∧ f[0] = sync0 ∧ f[1] = sync1 ∧ f[31] = termByte ∧ f[30] = csum f ∧
      validate f n = .ok) := by
  unfold validate
  by_cases h1 : n = 32 <;> by_cases h2 : f[0] = sync0 <;> by_cases h3 : f[1] = sync1 <;>
    by_cases h4 : f[31] = termByte <;> by_cases h5 : f[30] = csum f <;> simp [h1, h2, h3, h4, h5]

/-- A window with the sync header has only two ways to be rejected (44_synchronizer.md R141). -/
theorem validate_window (f : Buf) (h0 : f[0] = sync0) (h1 : f[1] = sync1) :
    validate f 32 =
      if f[31] ≠ termByte then .terminatorMismatch
      else if f[30] ≠ csum f then .checksumMismatch else .ok := by
  simp [validate, h0, h1]

@[simp] theorem frameStat_zero (f : Buf) : (frameStat f)[0] = f[4] := rfl

@[simp] theorem frameStat_one (f : Buf) : (frameStat f)[1] = f[5] := rfl

/-- Field `i` of a frame is big-endian at `6 + 2i` (42_extractor_scaler.md R102). -/
@[simp] theorem frameRaw_getElem (f : Buf) (i : Nat) (h : i < 12) :
    (frameRaw f)[i] = beHalf f[6 + 2 * i] f[7 + 2 * i] := by
  simp [frameRaw]

/-- Bit `k` of a big-endian field. -/
theorem getLsbD_beHalf (a b : Byte) (k : Nat) :
    (beHalf a b).getLsbD k = if k < 8 then b.getLsbD k else a.getLsbD (k - 8) := by
  have hb := b.getLsbD_of_ge k
  have ha := a.getLsbD_of_ge (k - 8)
  simp only [beHalf, BitVec.getLsbD_or, BitVec.getLsbD_shiftLeft,
    BitVec.getLsbD_setWidth]
  by_cases h1 : k < 8
  · simp [h1, show k < 16 by omega]
  by_cases h2 : k < 16
  · simp [h1, h2, hb (by omega), show k - 8 < 16 by omega]
  · simp [h1, h2, ha (by omega)]

@[simp] theorem highByte_beHalf (a b : Byte) : highByte (beHalf a b) = a := by
  ext k hk
  rw [highByte, BitVec.getElem_extractLsb', getLsbD_beHalf, if_neg (by omega),
    Nat.add_sub_cancel_left, BitVec.getLsbD_eq_getElem hk]

@[simp] theorem lowByte_beHalf (a b : Byte) : lowByte (beHalf a b) = b := by
  ext k hk
  rw [lowByte, BitVec.getElem_extractLsb', getLsbD_beHalf, if_pos (by omega), Nat.zero_add,
    BitVec.getLsbD_eq_getElem hk]

@[simp] theorem beHalf_high_low (h : Half) : beHalf (highByte h) (lowByte h) = h := by
  apply BitVec.eq_of_getLsbD_eq
  intro k hk
  simp only [getLsbD_beHalf, highByte, lowByte, BitVec.getLsbD_extractLsb']
  split
  · simp [*]
  · simp [show k - 8 < 8 by omega, show 8 + (k - 8) = k by omega]

/-- The value of a big-endian field (20_memory.md R43). -/
theorem beHalf_toNat (a b : Byte) : (beHalf a b).toNat = a.toNat * 256 + b.toNat := by
  have ha := a.isLt
  have hb := b.isLt
  rw [beHalf, BitVec.toNat_or, BitVec.toNat_shiftLeft,
    BitVec.toNat_setWidth, BitVec.toNat_setWidth, Nat.shiftLeft_eq,
    Nat.mod_eq_of_lt (show a.toNat < 2 ^ 16 by omega), Nat.mod_eq_of_lt (show b.toNat < 2 ^ 16 by omega),
    Nat.mod_eq_of_lt (show a.toNat * 2 ^ 8 < 2 ^ 16 by omega), Nat.mul_comm,
    ← Nat.two_pow_add_eq_or_of_lt (by omega)]
  omega

/-- The checksum reads bytes 0..29 only. -/
theorem csum_congr {f g : Buf} (h : ∀ k (hk : k < 30), f[k] = g[k]) : csum f = csum g := by
  have : f.toList.take 30 = g.toList.take 30 := by
    apply List.ext_getElem
    · simp
    · intro k h1 h2
      have hk : k < 30 := by simp at h1; omega
      simpa using h k hk
  rw [csum, csum, this]

/-- Bytes 0..29 of an encoded frame are the record's body (43_encoder.md R130). -/
theorem frame_body (stat : Vector Byte 2) (raw : Vector Half 12) (k : Nat) (h : k < 30) :
    (frame stat raw)[k] = bodyByte stat raw ⟨k, by omega⟩ := by
  simp [frame, frameBody, show 31 ≠ k by omega, show 30 ≠ k by omega]

/-- Byte 30 of an encoded frame is its checksum (R130). -/
theorem frame_csum (stat : Vector Byte 2) (raw : Vector Half 12) :
    (frame stat raw)[30] = csum (frame stat raw) := by
  have : csum (frame stat raw) = csum (frameBody stat raw) := by
    apply csum_congr
    intro k hk
    simp [frame, show 31 ≠ k by omega, show 30 ≠ k by omega]
  rw [this]
  simp [frame]

/-- Byte 31 of an encoded frame is the terminator (R130). -/
theorem frame_term (stat : Vector Byte 2) (raw : Vector Half 12) :
    (frame stat raw)[31] = termByte := by
  simp [frame]

end Sys2Proof.Machine
end

