-- ==== Sys2Proof/Laws/PerInstr.lean ====
section
/-! SUPPORT. Facts about every command as syntax, one lemma per constructor: its word has its opcode's byte,
and its word has no must-be-zero bit set. -/

namespace Sys2Proof.Laws.EncodedOpcode

/-- OPC of a command's word is the opcode map's byte for the command (30_encoding.md R60, R63). -/
def Statement (i : Instr) : Prop := opcField (encode i) = i.opcode.row.opc

/-- The fact holds whatever the operands are. -/
theorem of_encode (i : Instr) : Statement i := by simp [Statement, encode]

theorem nop : Statement .nop := of_encode _
theorem clear : Statement .clear := of_encode _
theorem clrstk : Statement .clrstk := of_encode _
theorem spush (b : Byte) : Statement (.spush b) := of_encode _
theorem seof : Statement .seof := of_encode _
theorem srestart : Statement .srestart := of_encode _
theorem fclr : Statement .fclr := of_encode _
theorem fpush (b : Byte) : Statement (.fpush b) := of_encode _
theorem decode : Statement .decode := of_encode _
theorem fcopy : Statement .fcopy := of_encode _
theorem wstat (sel : Nat) (b : Byte) : Statement (.wstat sel b) := of_encode _
theorem wraw (sel : Nat) (h : Half) : Statement (.wraw sel h) := of_encode _
theorem wscaled (sel : Nat) (p : Int) : Statement (.wscaled sel p) := of_encode _
theorem encode : Statement .encode := of_encode _
theorem rdraw (sel : Nat) : Statement (.rdraw sel) := of_encode _
theorem rdscaled (sel : Nat) : Statement (.rdscaled sel) := of_encode _
theorem rdstat (sel : Nat) : Statement (.rdstat sel) := of_encode _
theorem rdob (sel : Nat) : Statement (.rdob sel) := of_encode _
theorem rdimg (sel : Nat) : Statement (.rdimg sel) := of_encode _
theorem rdfb (sel : Nat) : Statement (.rdfb sel) := of_encode _
theorem rdsb (sel : Nat) : Statement (.rdsb sel) := of_encode _
theorem rdcsr (sel : Nat) : Statement (.rdcsr sel) := of_encode _

end Sys2Proof.Laws.EncodedOpcode

namespace Sys2Proof.Laws.EncodedZeroBits

/-- A command's word matches its own row: `(word AND mask) = (OPC << 56)` (30_encoding.md R64). -/
def Statement (i : Instr) : Prop :=
  Sys2Proof.encode i &&& i.opcode.row.cls.mask = i.opcode.matchValue

/-- It is enough that the bits of SEL and DATA which the class does not use are zero. -/
theorem of_fields (i : Instr)
    (hs : BitVec.ofNat 8 i.selOperand &&& i.opcode.row.cls.selMask = 0)
    (hd : i.dataOperand &&& i.opcode.row.cls.dataMask = 0) : Statement i := by
  rw [Statement, matches_iff]
  simp only [Sys2Proof.encode, opcField_assembleWord, selField_assembleWord, rsvField_assembleWord,
    dataField_assembleWord]
  exact ⟨trivial, hs, trivial, hd⟩

/-- A byte operand uses DATA[7:0] only. -/
theorem byte_data (b : Byte) : b.setWidth 32 &&& 0xFFFFFF00#32 = 0 := by
  ext k hk
  simp only [BitVec.getElem_and, BitVec.getElem_setWidth]
  by_cases h : k < 8
  · interval_cases k <;> simp
  · simp [BitVec.getLsbD_of_ge b k (by omega)]

/-- A half operand uses DATA[15:0] only. -/
theorem half_data (h : Half) : h.setWidth 32 &&& 0xFFFF0000#32 = 0 := by
  ext k hk
  simp only [BitVec.getElem_and, BitVec.getElem_setWidth]
  by_cases h' : k < 16
  · interval_cases k <;> simp
  · simp [BitVec.getLsbD_of_ge h k (by omega)]

theorem nop : Statement .nop := of_fields _ (by decide) (by decide)
theorem clear : Statement .clear := of_fields _ (by decide) (by decide)
theorem clrstk : Statement .clrstk := of_fields _ (by decide) (by decide)
theorem spush (b : Byte) : Statement (.spush b) :=
  of_fields _ (by simp [Instr.selOperand]) (byte_data b)
theorem seof : Statement .seof := of_fields _ (by decide) (by decide)
theorem srestart : Statement .srestart := of_fields _ (by decide) (by decide)
theorem fclr : Statement .fclr := of_fields _ (by decide) (by decide)
theorem fpush (b : Byte) : Statement (.fpush b) :=
  of_fields _ (by simp [Instr.selOperand]) (byte_data b)
theorem decode : Statement .decode := of_fields _ (by decide) (by decide)
theorem fcopy : Statement .fcopy := of_fields _ (by decide) (by decide)
theorem wstat (sel : Nat) (b : Byte) : Statement (.wstat sel b) :=
  of_fields _ (by simp [Instr.opcode, Opcode.row, CmdClass.selMask]) (byte_data b)
theorem wraw (sel : Nat) (h : Half) : Statement (.wraw sel h) :=
  of_fields _ (by simp [Instr.opcode, Opcode.row, CmdClass.selMask]) (half_data h)
theorem wscaled (sel : Nat) (p : Int) : Statement (.wscaled sel p) :=
  of_fields _ (by simp [Instr.opcode, Opcode.row, CmdClass.selMask])
    (by simp [Instr.opcode, Opcode.row, CmdClass.dataMask])
theorem encode : Statement .encode := of_fields _ (by decide) (by decide)
theorem rdraw (sel : Nat) : Statement (.rdraw sel) :=
  of_fields _ (by simp [Instr.opcode, Opcode.row, CmdClass.selMask])
    (by simp [Instr.dataOperand])
theorem rdscaled (sel : Nat) : Statement (.rdscaled sel) :=
  of_fields _ (by simp [Instr.opcode, Opcode.row, CmdClass.selMask])
    (by simp [Instr.dataOperand])
theorem rdstat (sel : Nat) : Statement (.rdstat sel) :=
  of_fields _ (by simp [Instr.opcode, Opcode.row, CmdClass.selMask])
    (by simp [Instr.dataOperand])
theorem rdob (sel : Nat) : Statement (.rdob sel) :=
  of_fields _ (by simp [Instr.opcode, Opcode.row, CmdClass.selMask])
    (by simp [Instr.dataOperand])
theorem rdimg (sel : Nat) : Statement (.rdimg sel) :=
  of_fields _ (by simp [Instr.opcode, Opcode.row, CmdClass.selMask])
    (by simp [Instr.dataOperand])
theorem rdfb (sel : Nat) : Statement (.rdfb sel) :=
  of_fields _ (by simp [Instr.opcode, Opcode.row, CmdClass.selMask])
    (by simp [Instr.dataOperand])
theorem rdsb (sel : Nat) : Statement (.rdsb sel) :=
  of_fields _ (by simp [Instr.opcode, Opcode.row, CmdClass.selMask])
    (by simp [Instr.dataOperand])
theorem rdcsr (sel : Nat) : Statement (.rdcsr sel) :=
  of_fields _ (by simp [Instr.opcode, Opcode.row, CmdClass.selMask])
    (by simp [Instr.dataOperand])

end Sys2Proof.Laws.EncodedZeroBits
end

