-- ==== Sys2Proof/Laws/Sync.lean ====
section
/-! SUPPORT. What one pass of `settle()` can do, what the whole loop leaves alone, and that it restores the
sync-buffer invariant (spec/44_synchronizer.md R142, 10_state.md R25). -/

namespace Sys2Proof.Machine

/-! ### One pass -/

/-- A byte that cannot start a frame is discarded. -/
theorem settleLoop_discard0 {s : State} (h : 1 ≤ s.sbLen ∧ s.sb[0] ≠ sync0) (n : Nat) (c : ResultCode)
    (e : Word32) : settleLoop (n + 1) s c e = settleLoop n s.discard c e := by
  rw [settleLoop, if_pos h]

/-- A start byte whose second byte is wrong is discarded. -/
theorem settleLoop_discard1 {s : State} (h0 : ¬ (1 ≤ s.sbLen ∧ s.sb[0] ≠ sync0))
    (h1 : 2 ≤ s.sbLen ∧ s.sb[1] ≠ sync1) (n : Nat) (c : ResultCode) (e : Word32) :
    settleLoop (n + 1) s c e = settleLoop n s.discard c e := by
  rw [settleLoop, if_neg h0, if_pos h1]

/-- A full window that validates is accepted, and the loop ends. -/
theorem settleLoop_accept {s : State} (h0 : ¬ (1 ≤ s.sbLen ∧ s.sb[0] ≠ sync0))
    (h1 : ¬ (2 ≤ s.sbLen ∧ s.sb[1] ≠ sync1)) (h2 : s.sbLen = 32) (hv : validate s.sb 32 = .ok) (n : Nat)
    (c : ResultCode) (e : Word32) :
    settleLoop (n + 1) s c e =
      ⟨s.accept s.streamBase, c, (SyncEvent.accepted (isResync s.disc)).word⟩ := by
  rw [settleLoop, if_neg h0, if_neg h1, if_pos h2]
  simp [hv]

/-- A full window that does not is rejected: its first byte is given up and the loop goes on. -/
theorem settleLoop_reject {s : State} (h0 : ¬ (1 ≤ s.sbLen ∧ s.sb[0] ≠ sync0))
    (h1 : ¬ (2 ≤ s.sbLen ∧ s.sb[1] ≠ sync1)) (h2 : s.sbLen = 32) (hv : validate s.sb 32 ≠ .ok) (n : Nat)
    (c : ResultCode) (e : Word32) :
    settleLoop (n + 1) s c e =
      settleLoop n (s.reject s.streamBase (validate s.sb 32)).discard (validate s.sb 32)
        (rejectEvent (validate s.sb 32)).word := by
  rw [settleLoop, if_neg h0, if_neg h1, if_pos h2]
  simp [hv]

/-- A buffer that can still start a frame and is not full is left alone. -/
theorem settleLoop_done {s : State} (h0 : ¬ (1 ≤ s.sbLen ∧ s.sb[0] ≠ sync0))
    (h1 : ¬ (2 ≤ s.sbLen ∧ s.sb[1] ≠ sync1)) (h2 : s.sbLen ≠ 32) (n : Nat) (c : ResultCode)
    (e : Word32) : settleLoop (n + 1) s c e = ⟨s, c, e⟩ := by
  rw [settleLoop, if_neg h0, if_neg h1, if_neg h2]

/-- An induction over the passes: a property kept by discards, by a reject before its discard, and by the
accept that ends the loop, holds of what the loop returns. -/
theorem settleLoop_induct {P : State → Prop}
    (discard : ∀ s, P s → P s.discard)
    (accept : ∀ s, P s → P (s.accept s.streamBase))
    (reject : ∀ s r, P s → P (s.reject s.streamBase r))
    (n : Nat) (s : State) (c : ResultCode) (e : Word32) (h : P s) :
    P (settleLoop n s c e).state := by
  induction n generalizing s c e with
  | zero => exact h
  | succ n ih =>
    by_cases h0 : 1 ≤ s.sbLen ∧ s.sb[0] ≠ sync0
    · rw [settleLoop_discard0 h0]; exact ih _ _ _ (discard s h)
    by_cases h1 : 2 ≤ s.sbLen ∧ s.sb[1] ≠ sync1
    · rw [settleLoop_discard1 h0 h1]; exact ih _ _ _ (discard s h)
    by_cases h2 : s.sbLen = 32
    · by_cases hv : validate s.sb 32 = .ok
      · rw [settleLoop_accept h0 h1 h2 hv]; exact accept s h
      · rw [settleLoop_reject h0 h1 h2 hv]; exact ih _ _ _ (discard _ (reject s _ h))
    · rw [settleLoop_done h0 h1 h2]; exact h

/-! ### What the loop leaves alone -/

/-- The state the synchronizer does not own, and the position SPOS, which only the push itself moves. -/
abbrev State.sameOutside (s t : State) : Prop :=
  t.fb = s.fb ∧ t.fbLen = s.fbLen ∧ t.ob = s.ob ∧ t.spos = s.spos ∧ t.eof = s.eof ∧
  t.rspCode = s.rspCode ∧ t.rspData = s.rspData ∧ t.sticky = s.sticky ∧
  t.resetHeld = s.resetHeld ∧ t.pending = s.pending

/-- `settle()` changes none of it (44_synchronizer.md R152). -/
theorem settle_sameOutside (s : State) : s.sameOutside s.settle.state := by
  rw [State.settle]
  refine settleLoop_induct (P := s.sameOutside) ?_ ?_ ?_ 33 s .ok 0 (by simp [State.sameOutside])
  · intro t h; simp only [State.sameOutside] at h ⊢; simpa using h
  · intro t h; simp only [State.sameOutside] at h ⊢; simpa using h
  · intro t r h; simp only [State.sameOutside] at h ⊢; simpa using h

/-! ### The sync-buffer invariant -/

/-- Clause (iv) of R25, with the buffer possibly full. -/
abbrev State.tailZero (s : State) : Prop :=
  s.sbLen ≤ 32 ∧ ∀ k (h : k < 32), s.sbLen ≤ k → s.sb[k] = 0#8

/-- A discard keeps the tail zero. -/
theorem State.tailZero.discard {s : State} (h : s.tailZero) : s.discard.tailZero := by
  obtain ⟨hn, hz⟩ := h
  refine ⟨by simp; omega, fun k hk hl => ?_⟩
  simp only [State.discard_eq, State.addDisc_sb, State.setSb_sb, State.addDisc_sbLen,
    State.setSb_sbLen] at hl ⊢
  rw [Buf.shiftDown_getElem _ _ hk]
  split
  · exact hz _ _ (by omega)
  · rfl

/-- From a buffer of at most 32 bytes with a zero tail, and with fuel for every byte, the loop returns a
state that meets the sync-buffer invariant. -/
theorem settleLoop_syncInv (n : Nat) (s : State) (c : ResultCode) (e : Word32) (hf : s.sbLen < n)
    (ht : s.tailZero) : (settleLoop n s c e).state.SyncInv := by
  induction n generalizing s c e with
  | zero => omega
  | succ n ih =>
    by_cases h0 : 1 ≤ s.sbLen ∧ s.sb[0] ≠ sync0
    · rw [settleLoop_discard0 h0]
      exact ih _ _ _ (by simp; omega) ht.discard
    by_cases h1 : 2 ≤ s.sbLen ∧ s.sb[1] ≠ sync1
    · rw [settleLoop_discard1 h0 h1]
      exact ih _ _ _ (by simp; omega) ht.discard
    by_cases h2 : s.sbLen = 32
    · by_cases hv : validate s.sb 32 = .ok
      · rw [settleLoop_accept h0 h1 h2 hv]
        refine ⟨by simp, by simp, by simp, fun k _ => by simp⟩
      · rw [settleLoop_reject h0 h1 h2 hv]
        refine ih _ _ _ (by simp; omega) (State.tailZero.discard ?_)
        simpa [State.tailZero] using ht
    · rw [settleLoop_done h0 h1 h2]
      have h0' : 1 ≤ s.sbLen → s.sb[0] = 0x5A#8 := fun h => by
        by_contra hc; exact h0 ⟨h, hc⟩
      have h1' : 2 ≤ s.sbLen → s.sb[1] = 0xA5#8 := fun h => by
        by_contra hc; exact h1 ⟨h, hc⟩
      have h2' : s.sbLen ≤ 31 := by have := ht.1; omega
      exact ⟨h2', h0', h1', fun k hk => ht.2 k.val k.isLt hk⟩

end Sys2Proof.Machine
end

