-- ==== Sys2Proof/Tests/Slice0.lean ====
section
/-! SUPPORT. Tests of the model, with expected results from spec/30_encoding.md R71 and the vectors of
spec/95_test_vectors.md, and for every statement with hypotheses a concrete instance that meets them. -/

namespace Sys2Proof.Tests

open Sys2Proof Sys2Proof.Machine

/-! ### States -/

/-- Frame A of 95_test_vectors.md. -/
def frameA : Buf := #v[
  0x5A, 0xA5, 0x1A, 0x01, 0x01, 0x02, 0x40, 0x00, 0x00, 0x00, 0xF0, 0x00, 0x01, 0x00, 0xFF, 0x00,
  0x00, 0x10, 0x01, 0xF4, 0xFE, 0x0C, 0x00, 0x00, 0x03, 0xE8, 0xFC, 0x18, 0x00, 0x64, 0xBF, 0xAA]

/-- The record of frame A (95_test_vectors.md, reference table). -/
def recordA : State := { State.reset with
  stat := #v[0x01, 0x02]
  raw := #v[0x4000, 0x0000, 0xF000, 0x0100, 0xFF00, 0x0010, 0x01F4, 0xFE0C, 0x0000, 0x03E8, 0xFC18, 0x0064]
  valid := true }

/-- `n` bytes of a buffer loaded for DECODE. -/
def loaded (f : Buf) (n : Nat) : State := { State.reset with fb := f, fbLen := n }

/-- The first `n` bytes of frame A in the sync buffer, all of them pushed, `lost` bytes discarded before. -/
def buffered (n : Nat) (lost : Word32 := 0) : State := { State.reset with
  sb := Vector.ofFn fun k => if k.val < n then frameA[k] else 0
  sbLen := n, spos := BitVec.ofNat 32 n + lost, disc := lost }

/-- What a view of the next state shows; none where there is no next state. -/
def sees {α : Type} (view : State → α) : Result → Option α
  | .next t => some (view t)
  | .fault _ => none
  | .refused _ => none

/-- The response port, as code and data. -/
def response (t : State) : Nat × Word32 := (t.rspCode.num, t.rspData)

/-! ### Well-formedness: a term that each check refuses -/

theorem test_wf_refuses_wide_selectors :
    (Instr.wstat 256 0).wf = false ∧ (Instr.wraw 256 0).wf = false ∧ (Instr.wscaled 256 0).wf = false ∧
    (Instr.rdraw 256).wf = false ∧ (Instr.rdscaled 256).wf = false ∧ (Instr.rdstat 256).wf = false ∧
    (Instr.rdob 256).wf = false ∧ (Instr.rdimg 256).wf = false ∧ (Instr.rdfb 256).wf = false ∧
    (Instr.rdsb 256).wf = false ∧ (Instr.rdcsr 256).wf = false := by decide

theorem test_wf_refuses_wide_scaled_values :
    (Instr.wscaled 0 2147483648).wf = false ∧ (Instr.wscaled 0 (-2147483649)).wf = false := by decide

theorem test_wf_accepts_selectors_above_their_range :
    (Instr.rdraw 12).wf = true ∧ (Instr.rdcsr 255).wf = true := by decide

/-! ### Decoding: a word of every constructor, written out from R60, R63 and R64 -/

theorem test_decode_control :
    decode 0x0000000000000000 = .command .nop ∧ decode 0x0100000000000000 = .command .clear ∧
    decode 0x0200000000000000 = .command .clrstk ∧
    decode 0x570C000000000000 = .command (.rdcsr 12) := by decide

theorem test_decode_synchronizer :
    decode 0x10000000000000A5 = .command (.spush 0xA5) ∧ decode 0x1100000000000000 = .command .seof ∧
    decode 0x1200000000000000 = .command .srestart ∧
    decode 0x561F000000000000 = .command (.rdsb 31) := by decide

theorem test_decode_decoder :
    decode 0x2000000000000000 = .command .fclr ∧ decode 0x21000000000000FF = .command (.fpush 0xFF) ∧
    decode 0x2200000000000000 = .command .decode ∧ decode 0x2300000000000000 = .command .fcopy ∧
    decode 0x5520000000000000 = .command (.rdfb 32) := by decide

theorem test_decode_record :
    decode 0x300100000000007F = .command (.wstat 1 0x7F) ∧
    decode 0x3101000000008000 = .command (.wraw 1 0x8000) ∧
    decode 0x32010000FFD30000 = .command (.wscaled 1 (-2949120)) ∧
    decode 0x500C000000000000 = .command (.rdraw 12) ∧
    decode 0x5106000000000000 = .command (.rdscaled 6) ∧
    decode 0x5201000000000000 = .command (.rdstat 1) ∧
    decode 0x541A000000000000 = .command (.rdimg 26) := by decide

theorem test_decode_encoder :
    decode 0x4000000000000000 = .command .encode ∧ decode 0x531F000000000000 = .command (.rdob 31) := by
  decide

/-- The illegal words of 95_test_vectors.md L2-8. -/
theorem test_decode_illegal :
    decode 0x0000000000000001 = .illegal (.mustBeZero .nop) ∧
    decode 0x0300000000000000 = .illegal (.reservedOpcode 0x03) ∧
    decode 0xFF00000000000000 = .illegal (.reservedOpcode 0xFF) ∧
    decode 0x03FF000000000000 = .illegal (.reservedOpcode 0x03) ∧
    decode 0x100100000000005A = .illegal (.mustBeZero .spush) ∧
    decode 0x100000000000015A = .illegal (.mustBeZero .spush) ∧
    decode 0x2000000100000000 = .illegal (.mustBeZero .fclr) ∧
    decode 0x3101000000018000 = .illegal (.mustBeZero .wraw) ∧
    decode 0x5000000000000001 = .illegal (.mustBeZero .rdraw) := by decide

theorem test_no_two_opcodes_share_a_byte : (Opcode.all.map fun o => o.row.opc).Nodup := by decide

theorem test_reserved_opcodes_are_234 :
    ((List.range 256).filter fun n => (lookupOpcode (BitVec.ofNat 8 n)).isNone).length = 234 := by decide +kernel

theorem test_table_word_runs_after_reset :
    decodeTableWord 64 0x5700000000000000 = some (.rdcsr 0) ∧
    sees response (step (State.reset.withFetchWord 64 0x570D000000000000)) = some (6, 0) := by decide

/-! ### One command each (95_test_vectors.md L2) -/

theorem test_nop : sees response (exec .nop { State.reset with rspCode := .checksumMismatch, rspData := 7 })
    = some (0, 0) := by decide

theorem test_clear : sees (fun t => (t.stat[0], t.valid, t.sticky)) (exec .clear
    { recordA with sticky := 0x1E0 }) = some (0, false, 0) := by decide

theorem test_clrstk : sees (fun t => (t.sticky, t.stat[0])) (exec .clrstk { recordA with sticky := 0x002 })
    = some (0, 0x01) := by decide

/-- S-1: the 32nd byte of frame A is accepted. -/
theorem test_spush_accepts : sees (fun t => (response t, t.nfrm, t.lsoff, t.raw[2], t.sbLen))
    (exec (.spush 0xAA) (buffered 31)) = some ((0, 0x01), 1, 0, 0xF000, 0) := by decide

/-- S-7: frame A with byte 31 = 00 is rejected and given up whole. -/
theorem test_spush_rejects : sees (fun t => (response t, t.nrej, t.disc, t.sbLen, t.valid))
    (exec (.spush 0x00) (buffered 31)) = some ((3, 0x02), 1, 32, 0, false) := by decide +kernel

/-- S-6: 5A A5 and one more byte, then SEOF. -/
theorem test_seof : sees (fun t => (response t, t.disc, t.eof)) (exec .seof (buffered 3))
    = some ((0, 3), 3, true) := by decide

theorem test_srestart : sees (fun t => (t.sbLen, t.spos, t.sb[0], t.sticky)) (exec .srestart
    { buffered 3 with sticky := 0x100 }) = some (0, 0, 0, 0x100) := by decide

theorem test_fclr : sees (fun t => (t.fbLen, t.fb[0])) (exec .fclr (loaded frameA 33)) = some (0, 0) := by
  decide

/-- The 33rd byte is not stored and the response is 0x21. -/
theorem test_fpush_saturates : sees (fun t => (response t, t.fb[31])) (exec (.fpush 0x00)
    (loaded frameA 32)) = some ((0, 0x21), 0xAA) := by decide

/-- V1. -/
theorem test_decode_loads : sees (fun t => (response t, t.stat, t.raw, t.valid)) (exec .decode
    (loaded frameA 32)) = some ((0, 0), recordA.stat, recordA.raw, true) := by decide

/-- V10: the terminator is checked before the checksum. -/
theorem test_decode_order : sees (fun t => (response t, t.valid, t.sticky)) (exec .decode
    { loaded ((frameA.set 31 0x00).set 30 0x00) 32 with valid := true }) = some ((3, 0), false, 0x008) := by
  decide

/-- After reset FCOPY copies 32 zero bytes. -/
theorem test_fcopy : sees (fun t => (t.fbLen, t.fb[31])) (exec .fcopy (loaded frameA 5))
    = some (32, 0) := by decide

theorem test_wstat : sees (fun t => (t.stat, t.valid)) (exec (.wstat 1 0x7F) recordA)
    = some (#v[0x01, 0x7F], false) := by decide

theorem test_wraw : sees (fun t => (t.raw[1], t.raw[0], t.valid)) (exec (.wraw 1 0x8000) recordA)
    = some (0x8000, 0x4000, false) := by decide

/-- VE = -1003 ties to the even raw value -502 (P2). -/
theorem test_wscaled_tie : sees (fun t => (response t, t.raw[7])) (exec (.wscaled 7 (-1003)) State.reset)
    = some ((0, 0x0000FE0A), 0xFE0A) := by decide

/-- HEADING = 360 degrees is out of range and keeps RAW and VALID. -/
theorem test_wscaled_range : sees (fun t => (response t, t.raw[0], t.valid, t.sticky))
    (exec (.wscaled 0 11796480) recordA) = some ((7, 0), 0x4000, true, 0x080) := by decide

theorem test_encode : sees (fun t => (response t, t.ob)) (exec .encode recordA)
    = some ((0, 0xBF), frameA) := by decide

theorem test_rdraw : sees response (exec (.rdraw 2) recordA) = some (0, 0xFFFFF000) := by decide

theorem test_rdscaled : sees response (exec (.rdscaled 2) recordA) = some (0, 0xFFFA6000) := by decide

theorem test_rdstat : sees response (exec (.rdstat 1) recordA) = some (0, 0x02) := by decide

theorem test_rdob : sees response (exec (.rdob 30) { State.reset with ob := frameA })
    = some (0, 0xBF) := by decide

/-- The low byte of VE = FE0C stands at image index 16. -/
theorem test_rdimg : sees response (exec (.rdimg 16) recordA) = some (0, 0x0C) ∧
    sees response (exec (.rdimg 26) recordA) = some (6, 0) := by decide

theorem test_rdfb : sees response (exec (.rdfb 30) (loaded frameA 32)) = some (0, 0xBF) := by decide

theorem test_rdsb : sees response (exec (.rdsb 0) (buffered 1)) = some (0, 0x5A) := by decide

theorem test_rdcsr : sees response (exec (.rdcsr 1) { State.reset with eof := true }) = some (0, 0x100) ∧
    sees response (exec (.rdcsr 13) State.reset) = some (6, 0) := by decide

/-! ### Frames and the reference synchronizer -/

theorem test_csum : csum frameA = 0xBF ∧ validate frameA 32 = .ok := by decide

/-- The field table's offsets are `6 + 2i` (R100). -/
theorem test_field_offsets : ∀ i : Fin 12, fieldTable[i].offset = 6 + 2 * i.val := by decide

/-- The -90 degrees of 95_test_vectors.md L1-3: P over D. -/
theorem test_physical_pair : physicalPair 1 0x8000 = (-2949120, 32768) := by decide

/-- S-7 as a stream: one window, at offset 0, rejected with TerminatorMismatch. -/
theorem test_sync_ref : syncRef (frameA.set 31 0x00).toList = [(0, .terminatorMismatch)] := by decide

/-! ### Assembler (R69 to R71) -/

theorem test_assemble_fields :
    assembleLine "WRAW ROLL, 0x8000 ; a comment".toList = .ok [0x3101000000008000] ∧
    assembleLine "WSCALED ROLL, -2949120".toList = .ok [0x32010000FFD30000] := by decide

theorem test_assemble_pseudo :
    assembleLine "LOOPBACK".toList = .ok [0x4000000000000000, 0x2300000000000000, 0x2200000000000000] := by
  decide

theorem test_assemble_range :
    assembleLine "SPUSH 256".toList = .error .outOfRange ∧
    assembleLine "WRAW 0, -32769".toList = .error .outOfRange ∧
    assembleLine "RDRAW 12".toList = .ok [0x500C000000000000] := by decide

/-! ### Instances that meet the statements' hypotheses -/

theorem witness_EveryCommandDecodesFromItsWord :
    (Instr.wscaled 255 (-2147483648)).wf = true ∧ (Instr.wscaled 0 2147483647).wf = true ∧
    (Instr.rdcsr 255).wf = true := by decide

theorem witness_EveryDecodedWordIsTheCommandsWord :
    decode 0x32FF000080000000 = .command (.wscaled 255 (-2147483648)) := by decide

/-- A block with one word pending. -/
def waiting (w : CmdWord) : State := { State.reset with pending := [.command w] }

/-- Both ends of each reserved range, and of each class's must-be-zero bits. -/
theorem witness_ReservedOpcodesAndSetZeroBitsAreIllegal :
    (waiting 0x0300000000000000).resetHeld = false ∧
    (waiting 0x0300000000000000).pending = .command 0x0300000000000000 :: [] ∧
    [0x0300000000000000#64, 0x0F00000000000000, 0x1300000000000000, 0x1F00000000000000, 0x2400000000000000,
      0x2F00000000000000, 0x3300000000000000, 0x3F00000000000000, 0x4100000000000000, 0x4F00000000000000,
      0x5800000000000000, 0xFF00000000000000].map (fun w : CmdWord => (w >>> 56).toNat) =
      [0x03, 0x0F, 0x13, 0x1F, 0x24, 0x2F, 0x33, 0x3F, 0x41, 0x4F, 0x58, 0xFF] ∧
    (0x0000000000000001#64 &&& 0x00FFFFFFFFFFFFFF ≠ 0 ∧ 0x0080000000000000#64 &&& 0x00FFFFFFFFFFFFFF ≠ 0) ∧
    (0x1000000000000100#64 &&& 0x00FFFFFFFFFFFF00 ≠ 0 ∧ 0x1080000000000000#64 &&& 0x00FFFFFFFFFFFF00 ≠ 0) ∧
    (0x5700000000000001#64 &&& 0x0000FFFFFFFFFFFF ≠ 0 ∧ 0x5700800000000000#64 &&& 0x0000FFFFFFFFFFFF ≠ 0) ∧
    (0x3000000000000100#64 &&& 0x0000FFFFFFFFFF00 ≠ 0 ∧ 0x3000800000000000#64 &&& 0x0000FFFFFFFFFF00 ≠ 0) ∧
    (0x3100000000010000#64 &&& 0x0000FFFFFFFF0000 ≠ 0 ∧ 0x3100800000000000#64 &&& 0x0000FFFFFFFF0000 ≠ 0) ∧
    (0x3200000100000000#64 &&& 0x0000FFFF00000000 ≠ 0 ∧ 0x3200800000000000#64 &&& 0x0000FFFF00000000 ≠ 0) :=
  ⟨rfl, rfl, by decide, by decide, by decide, by decide, by decide, by decide, by decide⟩

theorem witness_SelectorsOutOfRangeRaiseBadSelect :
    1 < 2 ∧ 11 < 12 ∧ 31 < 32 ∧ 25 < 26 ∧ 12 < 13 := by decide

theorem witness_AStepRunsTheDecodedCommand :
    (waiting 0x5700000000000000).resetHeld = false ∧
    (waiting 0x5700000000000000).pending = .command 0x5700000000000000 :: [] ∧
    decode 0x5700000000000000 = .command (.rdcsr 0) := by decide

theorem witness_ResetInputAndIdlePort :
    (let s : State := { recordA with resetHeld := true, pending := [.resetReleased] }
     s.resetHeld = true ∧ s.pending = .resetReleased :: []) ∧
    (let s : State := { recordA with pending := [.resetAsserted] }
     s.pending = .resetAsserted :: []) ∧
    (let s : State := { recordA with resetHeld := true, pending := [.command 0] }
     s.resetHeld = true ∧ s.pending = .command 0 :: []) ∧
    recordA.pending = [] := by decide

theorem witness_ACommandSequenceIsALeftFold : recordA.resetHeld = false := by decide

theorem witness_RdcsrReadsEveryCsr :
    (let s : State := { buffered 31 with fb := frameA, fbLen := 33 }
     s.SyncInv ∧ s.FrameBufInv) ∧
    State.reset.SyncInv ∧ State.reset.FrameBufInv := by decide

theorem witness_FpushAppendsUntilTheBufferIsFull :
    (loaded frameA 31).fbLen < 32 ∧ 32 ≤ (loaded frameA 32).fbLen := by decide

/-- The four checks' hypotheses on a loaded frame, by number. -/
theorem witness_DecodeLoadsAValidFrame :
    (loaded frameA 32).fbLen = 32 ∧ (loaded frameA 32).fb[0] = 0x5A#8 ∧
    (loaded frameA 32).fb[1] = 0xA5#8 ∧ (loaded frameA 32).fb[31] = 0xAA#8 ∧
    ((loaded frameA 32).fb[30]).toNat = (∑ k : Fin 30, ((loaded frameA 32).fb[k.val]).toNat) % 256 := by
  decide

theorem witness_DecodeReportsTheFirstFailingCheck :
    (loaded frameA 31).fbLen ≠ 32 ∧ (loaded frameA 33).fbLen ≠ 32 ∧
    (loaded (frameA.set 1 0x00) 32).fb[1] ≠ 0xA5#8 ∧
    (loaded (frameA.set 31 0x00) 32).fb[0] = 0x5A#8 ∧ (loaded (frameA.set 31 0x00) 32).fb[31] ≠ 0xAA#8 ∧
    (loaded (frameA.set 30 0xC0) 32).fb[31] = 0xAA#8 ∧
    ((loaded (frameA.set 30 0xC0) 32).fb[30]).toNat ≠
      (∑ k : Fin 30, ((loaded (frameA.set 30 0xC0) 32).fb[k.val]).toNat) % 256 := by decide

theorem witness_EverySingleByteChangeIsDetected :
    validate frameA 32 = .ok ∧
    ∀ k ∈ [(0 : Fin 32), 1, 2, 29, 30, 31], frameA[k] ^^^ 0x01#8 ≠ frameA[k] := by decide

theorem witness_CompensatingChangesAreNotDetected :
    validate frameA 32 = .ok ∧ 2 ≤ (2 : Fin 32).val ∧ (29 : Fin 32).val ≤ 29 ∧
    (2 : Fin 32) ≠ (29 : Fin 32) := by decide

theorem witness_RoundingDivisionIsRoundHalfToEven : 0 < fieldMult 0 := by decide

theorem witness_WscaledStoresTheNearestRawValue :
    (unscale 0 (-90)).isSome = true ∧ (unscale 0 (-91)).isSome = false := by decide

theorem witness_ScalingRoundTripsWithinHalfAStep : unscale 6 1001 = some 500#16 := by decide

theorem witness_ImageSwapsTheBytesOfEachDecodedField :
    ∃ t, exec .decode (loaded frameA 32) = .next t ∧ t.rspCode = .ok := ⟨_, rfl, by decide⟩

theorem witness_SpushAfterTheEndIsRefused : ({ State.reset with eof := true } : State).eof = true := by
  decide

theorem witness_SpushKeepsOnlyWhatCanStartAFrame :
    (∀ n ∈ [0, 1, 2, 30], (buffered n).SyncInv ∧ (buffered n).eof = false ∧ (buffered n).sbLen = n) ∧
    (0x00#8 ≠ 0xA5#8 ∧ 0x00#8 ≠ 0x5A#8) := by decide

theorem witness_SpushAcceptsAValidWindow :
    (let s := buffered 31 5
     s.SyncInv ∧ s.eof = false ∧ s.sbLen = 31 ∧
     ((s.sb.set 31 0xAA)[30]).toNat = (∑ k : Fin 30, ((s.sb.set 31 0xAA)[k.val]).toNat) % 256) := by decide

theorem witness_SpushRejectsABadWindow :
    (let s := buffered 31
     s.SyncInv ∧ s.eof = false ∧ s.sbLen = 31 ∧ 0x00#8 ≠ 0xAA#8) ∧
    (let s : State := { buffered 31 with sb := (buffered 31).sb.set 10 0x0F }
     s.SyncInv ∧ s.eof = false ∧ s.sbLen = 31 ∧
     ((s.sb.set 31 0xAA)[30]).toNat ≠ (∑ k : Fin 30, ((s.sb.set 31 0xAA)[k.val]).toNat) % 256) := by decide

theorem witness_OnlyTerminatorOrChecksumRejectAWindow :
    (buffered 31).SyncInv ∧ (buffered 31).eof = false ∧
    ∃ t, exec (.spush 0x00) (buffered 31) = .next t := ⟨by decide, by decide, _, rfl⟩

theorem witness_SeofDropsTheBufferedBytes :
    (buffered 31).eof = false ∧ ({ State.reset with eof := true } : State).eof = true := by decide

theorem witness_WindowsEvaluatedAreThoseOfSyncRef :
    State.reset.StreamStart ∧ ({ recordA with lsoff := 3 } : State).StreamStart := by decide

theorem witness_GarbageBetweenFramesIsOneResync :
    State.reset.StreamStart ∧ validate frameA 32 = .ok ∧
    [0x01#8, 0x5A, 0x02, 0xA5, 0x5A].length = 5 ∧
    ∀ k, k < 4 → ¬ ([0x01#8, 0x5A, 0x02, 0xA5, 0x5A].getD k 0 = 0x5A#8 ∧
      [0x01#8, 0x5A, 0x02, 0xA5, 0x5A].getD (k + 1) 0 = 0xA5#8) := by decide

/-- A block about to accept a window. -/
def accepting : State := { buffered 31 with ob := frameA, pending := [.command 0x10000000000000AA] }

theorem witness_EveryStepKeepsTheSyncBufferInvariant :
    (∃ t, exec .clear accepting = .next t) ∧ accepting.SyncInv ∧ ∃ t, step accepting = .next t :=
  ⟨⟨_, rfl⟩, by decide, _, rfl⟩

theorem witness_EveryStepKeepsTheOtherInvariants :
    accepting.FrameBufInv ∧ accepting.StickyInv ∧ accepting.OutputInv ∧ accepting.EofInv ∧
    ∃ t, step accepting = .next t := ⟨by decide, by decide, by decide, by decide, _, rfl⟩

theorem witness_AFailingCommandChangesNothingElse :
    sees (fun t => decide (t.rspCode ≠ .ok)) (State.issue 0x2200000000000000 recordA) = some true ∧
    sees (fun t => decide (t.rspCode ≠ .ok)) (State.issue 0x0300000000000000 recordA) = some true ∧
    sees (fun t => decide (t.rspCode ≠ .ok)) (State.issue 0x100000000000005A { recordA with eof := true })
      = some true ∧
    (buffered 31).SyncInv ∧ (buffered 31).eof = false ∧
    sees (fun t => decide (t.rspCode ≠ .ok)) (exec (.spush 0x00) (buffered 31)) = some true := by decide +kernel

theorem witness_StickyAccumulatesTheCodes :
    (∃ t, exec .decode recordA = .next t) ∧ (Instr.decode ≠ .clear ∧ Instr.decode ≠ .clrstk) ∧
    (∃ t, exec .clrstk recordA = .next t) ∧ ∃ t, exec .clear recordA = .next t :=
  ⟨⟨_, rfl⟩, by decide, ⟨_, rfl⟩, _, rfl⟩

theorem witness_OnlyTheNamedCommandsWriteTheRecord :
    (∃ t, exec .encode recordA = .next t) ∧ Instr.encode ∉ [Instr.decode, .clear] ∧
    (∀ b, Instr.encode ≠ .spush b) ∧ (∀ sel b, Instr.encode ≠ .wstat sel b) ∧
    (∀ sel h, Instr.encode ≠ .wraw sel h) ∧ ∀ sel p, Instr.encode ≠ .wscaled sel p :=
  ⟨⟨_, rfl⟩, by decide, by simp, by simp, by simp, by simp⟩

theorem witness_ValidCertifiesAValidatedFrame :
    (∃ t, exec .decode (loaded frameA 32) = .next t ∧ t.valid = true) ∧
    ((buffered 31).SyncInv ∧ ∃ t, exec (.spush 0xAA) (buffered 31) = .next t ∧ t.valid = true) ∧
    (∃ t, exec .nop recordA = .next t ∧ t.valid = true) ∧
    recordA.valid = true ∧ ∃ t, exec (.wstat 1 0) recordA = .next t ∧ t.rspCode = .ok ∧ t.valid = false :=
  ⟨⟨_, rfl, by decide⟩, ⟨by decide, _, rfl, by decide⟩, ⟨_, rfl, by decide⟩, by decide, _, rfl, by decide,
    by decide⟩

theorem witness_TheSynchronizerIgnoresTheDecodersBuffers :
    (∃ b, Instr.spush 0xAA = .spush b) ∧ ∃ t, exec (.spush 0xAA) (buffered 31) = .next t :=
  ⟨⟨_, rfl⟩, _, rfl⟩

theorem witness_TheDecoderLeavesTheSynchronizerAlone :
    ∃ t, exec .decode { buffered 31 with fb := frameA, fbLen := 32 } = .next t := ⟨_, rfl⟩

theorem witness_ReadsHaveNoSideEffect :
    (∃ t, exec (.rdraw 11) recordA = .next t) ∧ ∃ t, exec (.rdraw 12) recordA = .next t :=
  ⟨⟨_, rfl⟩, _, rfl⟩

theorem witness_DecodeIsIdempotent :
    (∃ t, exec .decode (loaded frameA 32) = .next t) ∧ ∃ t, exec .decode (loaded frameA 33) = .next t :=
  ⟨⟨_, rfl⟩, _, rfl⟩

theorem witness_OneWindowPerPushAndNoOtherCounts :
    (∃ t, exec .nop recordA = .next t) ∧ (buffered 31).SyncInv ∧
    ∃ t, exec (.spush 0x00) (buffered 31) = .next t := ⟨⟨_, rfl⟩, by decide, _, rfl⟩

theorem witness_OnlyTheNamedCommandsWriteTheBuffers :
    (∃ t, exec .encode (loaded frameA 32) = .next t) ∧ ∃ t, exec .fclr (loaded frameA 32) = .next t :=
  ⟨⟨_, rfl⟩, _, rfl⟩

theorem witness_PositionAndEndOfStreamWriters :
    (∃ t, exec .srestart (buffered 31) = .next t) ∧ (∃ t, exec (.spush 0x00) (buffered 31) = .next t) ∧
    (∃ t, exec .seof (buffered 31) = .next t) ∧ ∃ t, exec .nop (buffered 31) = .next t :=
  ⟨⟨_, rfl⟩, ⟨_, rfl⟩, ⟨_, rfl⟩, _, rfl⟩

theorem witness_CommandsDoNotTouchTheHostsSide :
    (∃ t, exec .clear accepting = .next t) ∧ ∃ t, exec (.spush 0xAA) accepting = .next t :=
  ⟨⟨_, rfl⟩, _, rfl⟩

theorem witness_TheAssemblerEmitsOnlyCommands :
    assembleLine "WREC 1, 2, 0, 0, 0, 0, 0, 0, 0, 0, 0, 0, 0, -1".toList = .ok
      (([Instr.wstat 0 1, .wstat 1 2] ++ (List.range 11).map (fun i => Instr.wraw i 0) ++
        [Instr.wraw 11 0xFFFF]).map encode) := by decide +kernel

end Sys2Proof.Tests
end

/-! ### The command port -/

section
namespace Sys2Proof.Machine

/-- A step with a command word at the head of the port takes the word and offers it to the block. -/
theorem step_of_pending_command {s : State} {w : CmdWord} {rest : List HostEvent}
    (hp : s.pending = .command w :: rest) : step s = (s.setPending rest).offer w := by
  rw [step, State.takeInput, hp]

/-- A block whose reset is released accepts the word it is offered (R200). -/
theorem State.offer_of_released {s : State} (hr : s.resetHeld = false) (w : CmdWord) :
    s.offer w = s.issue w := by
  rw [State.offer, hr, if_neg Bool.false_ne_true]

/-- A word that passes R66's two encoding checks runs its command's own rule. -/
theorem State.issue_of_decode {w : CmdWord} {i : Instr} (hd : decode w = .command i) (s : State) :
    s.issue w = exec i s := by
  rw [State.issue, hd]

/-- Settles O7: the step takes the word, the released block accepts it, and the decoded command runs. -/
theorem aStepRunsTheDecodedCommand : Obligations.AStepRunsTheDecodedCommand := by
  intro s w i rest hr hp hd
  have hr' : (s.setPending rest).resetHeld = false := by rw [State.setPending_resetHeld, hr]
  calc step s = (s.setPending rest).offer w := step_of_pending_command hp
    _ = (s.setPending rest).issue w := State.offer_of_released hr' w
    _ = exec i (s.setPending rest) := State.issue_of_decode hd _

end Sys2Proof.Machine
end

/-! ### What one command can do -/

section
namespace Sys2Proof.Machine

/-- The state in which SPUSH calls `settle()`: the byte appended and counted (44_synchronizer.md R143). -/
def State.received (b : Byte) (s : State) : State :=
  (s.setSb (s.sb.store s.sbLen b) (s.sbLen + 1)).countPush

/-- Everything a command can do, by the guard that selects it; of a read (class S) it says only that it
answers OK. -/
inductive Effect (s : State) : Instr → State → Prop where
  | nop : Effect s .nop (s.respond .ok 0)
  | clear : Effect s .clear (s.resetElements.respond .ok 0)
  | clrstk : Effect s .clrstk (s.clearSticky.respond .ok 0)
  | spush (b : Byte) (opened : s.eof = false) : Effect s (.spush b)
      ((s.received b).settle.state.respond (s.received b).settle.code (s.received b).settle.evt)
  | spushEnded (b : Byte) (ended : s.eof = true) : Effect s (.spush b) (s.respond .streamEnded 0)
  | seof (opened : s.eof = false) : Effect s .seof
      ((((s.addDisc s.sbLen).setSb Buf.zero 0).setEof true).respond .ok (zextCount s.sbLen))
  | seofAgain (ended : s.eof = true) : Effect s .seof (s.respond .ok 0)
  | srestart : Effect s .srestart (s.restartSync.respond .ok 0)
  | fclr : Effect s .fclr ((s.setFb Buf.zero 0).respond .ok 0)
  | fpush (b : Byte) : Effect s (.fpush b) ((s.pushFb b).respond .ok (zextCount (s.pushFb b).fbLen))
  | decode (valid : validate s.fb s.fbLen = .ok) : Effect s .decode
      (((s.setRecord (frameStat s.fb) (frameRaw s.fb)).setValid true).respond .ok 0)
  | decodeFails (invalid : validate s.fb s.fbLen ≠ .ok) : Effect s .decode
      ((s.setValid false).respond (validate s.fb s.fbLen) 0)
  | fcopy : Effect s .fcopy ((s.setFb s.ob 32).respond .ok 0)
  | wstat (j : Fin 2) (b : Byte) : Effect s (.wstat j.val b)
      (((s.setStat j b).setValid false).respond .ok 0)
  | wraw (k : Fin 12) (h : Half) : Effect s (.wraw k.val h)
      (((s.setRaw k h).setValid false).respond .ok 0)
  | wscaled (k : Fin 12) (p : Int) (u : Half) (fits : unscale k p = some u) :
      Effect s (.wscaled k.val p) (((s.setRaw k u).setValid false).respond .ok (zextHalf u))
  | wscaledOutOfRange (k : Fin 12) (p : Int) (misfits : unscale k p = none) :
      Effect s (.wscaled k.val p) (s.respond .fieldOutOfRange 0)
  | encode : Effect s .encode
      ((s.setOb (frame s.stat s.raw)).respond .ok (zextByte (frame s.stat s.raw)[30]))
  | read {i : Instr} (d : Word32) (class_S : i.opcode.row.cls = .S) : Effect s i (s.respond .ok d)
  | badSelect {i : Instr} (selects : i.opcode.row.cls.selMask = 0) :
      Effect s i (s.respond .badSelect 0)

variable {s t : State}

/-- A command with a selector does what its rule does at the selected index, or raises BadSelect. -/
theorem Effect.of_withSelect {n sel : Nat} {i : Instr} {rule : Fin n → State → State}
    (selects : i.opcode.row.cls.selMask = 0) (h : ∀ k : Fin n, k.val = sel → Effect s i (rule k s)) :
    Effect s i (withSelect n sel rule s) := by
  rcases withSelect_cases (sel := sel) rule s with ⟨hlt, e⟩ | ⟨-, e⟩
  · rw [e]; exact h _ rfl
  · rw [e]; exact .badSelect selects

/-- The rule of WSCALED has the two outcomes of `unscale` (42_extractor_scaler.md R112). -/
theorem Effect.of_writeScaled (k : Fin 12) (p : Int) :
    Effect s (.wscaled k.val p) (State.writeScaled p k s) := by
  rw [State.writeScaled]
  cases hu : unscale k p with
  | none => simpa using Effect.wscaledOutOfRange (s := s) k p hu
  | some u => exact .wscaled k p u hu

/-- Every command ends in a next state, and that state is one of its effects. -/
theorem exec_next (i : Instr) (s : State) : ∃ t, exec i s = .next t ∧ Effect s i t := by
  cases i with
  | nop => exact ⟨_, rfl, .nop⟩
  | clear => exact ⟨_, rfl, .clear⟩
  | clrstk => exact ⟨_, rfl, .clrstk⟩
  | spush b =>
    refine ⟨_, rfl, ?_⟩
    cases he : s.eof with
    | false => exact .spush b he
    | true => simpa using Effect.spushEnded b he
  | seof =>
    refine ⟨_, rfl, ?_⟩
    cases he : s.eof with
    | false => exact .seof he
    | true => exact .seofAgain he
  | srestart => exact ⟨_, rfl, .srestart⟩
  | fclr => exact ⟨_, rfl, .fclr⟩
  | fpush b => exact ⟨_, rfl, .fpush b⟩
  | decode =>
    refine ⟨_, rfl, ?_⟩
    split
    next hv => exact .decode hv
    next hv => simpa using Effect.decodeFails hv
  | fcopy => exact ⟨_, rfl, .fcopy⟩
  | wstat sel b => exact ⟨_, rfl, .of_withSelect rfl fun j hj => hj ▸ .wstat j b⟩
  | wraw sel h => exact ⟨_, rfl, .of_withSelect rfl fun k hk => hk ▸ .wraw k h⟩
  | wscaled sel p => exact ⟨_, rfl, .of_withSelect rfl fun k hk => hk ▸ .of_writeScaled k p⟩
  | encode => exact ⟨_, rfl, .encode⟩
  | rdraw sel => exact ⟨_, rfl, .of_withSelect rfl fun _ _ => .read _ rfl⟩
  | rdscaled sel => exact ⟨_, rfl, .of_withSelect rfl fun _ _ => .read _ rfl⟩
  | rdstat sel => exact ⟨_, rfl, .of_withSelect rfl fun _ _ => .read _ rfl⟩
  | rdob sel => exact ⟨_, rfl, .of_withSelect rfl fun _ _ => .read _ rfl⟩
  | rdimg sel => exact ⟨_, rfl, .of_withSelect rfl fun _ _ => .read _ rfl⟩
  | rdfb sel => exact ⟨_, rfl, .of_withSelect rfl fun _ _ => .read _ rfl⟩
  | rdsb sel => exact ⟨_, rfl, .of_withSelect rfl fun _ _ => .read _ rfl⟩
  | rdcsr sel => exact ⟨_, rfl, .of_withSelect rfl fun _ _ => .read _ rfl⟩

/-- A command's next state is one of its effects. -/
theorem effect_of_exec {i : Instr} (h : exec i s = .next t) : Effect s i t := by
  obtain ⟨u, hu, he⟩ := exec_next i s
  rw [h] at hu
  cases hu
  exact he

/-! ### What one step keeps -/

/-- A property of states is kept by every step when it is kept by taking an input from the port, by a
response and by every command's effect, and holds of every state whose elements are at reset. -/
theorem step_keeps {P : State → Prop}
    (port : ∀ s rest, P s → P (s.setPending rest))
    (reset : ∀ (s : State) (held : Bool), P (s.resetElements.setResetHeld held))
    (response : ∀ s c d, P s → P (s.respond c d))
    (command : ∀ s i t, P s → Effect s i t → P t)
    (hs : P s) (h : step s = .next t) : P t := by
  rw [step, State.takeInput] at h
  split at h
  next => cases h; exact hs
  next w rest _ =>
    have hp := port s rest hs
    rw [State.offer] at h
    split at h
    next => cases h; exact hp
    next =>
      rw [State.issue] at h
      split at h
      next i _ => exact command _ i t hp (effect_of_exec h)
      next => cases h; exact response _ _ _ hp
  next rest _ => cases h; exact reset _ true
  next rest _ =>
    cases h
    split
    next => exact reset _ false
    next => exact port s rest hs

end Sys2Proof.Machine
end

/-! ### What `settle()` returns -/

section
namespace Sys2Proof.Machine

variable (s : State)

@[simp] theorem State.received_stat (b : Byte) : (s.received b).stat = s.stat := rfl
@[simp] theorem State.received_raw (b : Byte) : (s.received b).raw = s.raw := rfl
@[simp] theorem State.received_valid (b : Byte) : (s.received b).valid = s.valid := rfl
@[simp] theorem State.received_fb (b : Byte) : (s.received b).fb = s.fb := rfl
@[simp] theorem State.received_fbLen (b : Byte) : (s.received b).fbLen = s.fbLen := rfl
@[simp] theorem State.received_ob (b : Byte) : (s.received b).ob = s.ob := rfl
@[simp] theorem State.received_sb (b : Byte) : (s.received b).sb = s.sb.store s.sbLen b := rfl
@[simp] theorem State.received_sbLen (b : Byte) : (s.received b).sbLen = s.sbLen + 1 := rfl
@[simp] theorem State.received_spos (b : Byte) : (s.received b).spos = s.spos + 1 := rfl
@[simp] theorem State.received_eof (b : Byte) : (s.received b).eof = s.eof := rfl
@[simp] theorem State.received_disc (b : Byte) : (s.received b).disc = s.disc := rfl
@[simp] theorem State.received_nfrm (b : Byte) : (s.received b).nfrm = s.nfrm := rfl
@[simp] theorem State.received_nrej (b : Byte) : (s.received b).nrej = s.nrej := rfl
@[simp] theorem State.received_nrsy (b : Byte) : (s.received b).nrsy = s.nrsy := rfl
@[simp] theorem State.received_lsevt (b : Byte) : (s.received b).lsevt = s.lsevt := rfl
@[simp] theorem State.received_lsoff (b : Byte) : (s.received b).lsoff = s.lsoff := rfl
@[simp] theorem State.received_ldisc (b : Byte) : (s.received b).ldisc = s.ldisc := rfl
@[simp] theorem State.received_sticky (b : Byte) : (s.received b).sticky = s.sticky := rfl
@[simp] theorem State.received_rspCode (b : Byte) : (s.received b).rspCode = s.rspCode := rfl
@[simp] theorem State.received_rspData (b : Byte) : (s.received b).rspData = s.rspData := rfl
@[simp] theorem State.received_resetHeld (b : Byte) : (s.received b).resetHeld = s.resetHeld := rfl
@[simp] theorem State.received_pending (b : Byte) : (s.received b).pending = s.pending := rfl

/-- The byte that fills the buffer completes the window `s.sb.set 31 b`. -/
theorem State.received_sb_full (b : Byte) (h : s.sbLen = 31) : (s.received b).sb = s.sb.set 31 b := by
  ext k hk
  simp [Buf.store_getElem, Vector.getElem_set, h]

/-- The received byte lies below the zero tail. -/
theorem State.SyncInv.received {s : State} (h : s.SyncInv) (b : Byte) : (s.received b).tailZero := by
  obtain ⟨hlen, -, -, htail⟩ := h
  refine ⟨by simp; omega, fun k hk hl => ?_⟩
  simp only [State.received_sbLen, State.received_sb] at hl ⊢
  rw [Buf.store_getElem _ _ _ _ hk, if_neg (by omega)]
  exact htail ⟨k, hk⟩ (by simp; omega)

/-- `t` is `s` with other contents of the sync buffer and a larger DISC. -/
def State.Discarding (s t : State) : Prop := ∃ v m d, t = (s.setSb v m).addDisc d

theorem State.Discarding.refl : s.Discarding s :=
  ⟨s.sb, s.sbLen, 0, by simp [State.setSb, State.addDisc]⟩

/-- A discard before is one more of the same. -/
theorem State.Discarding.of_discard {s t : State} (h : s.discard.Discarding t) : s.Discarding t := by
  obtain ⟨v, m, d, rfl⟩ := h
  exact ⟨v, m, 1 + d, by simp [State.setSb, State.addDisc, BitVec.add_assoc, BitVec.ofNat_add]⟩

/-- A buffer that is not full yields no window: the loop only discards, and code and event stand. -/
theorem settleLoop_short (n : Nat) (s : State) (c : ResultCode) (e : Word32) (h : s.sbLen ≤ 31) :
    ∃ t, s.Discarding t ∧ settleLoop n s c e = ⟨t, c, e⟩ := by
  induction n generalizing s with
  | zero => exact ⟨s, .refl s, rfl⟩
  | succ n ih =>
    obtain ⟨t, ht, et⟩ := ih s.discard (by simp; omega)
    by_cases h0 : 1 ≤ s.sbLen ∧ s.sb[0] ≠ sync0
    · exact ⟨t, ht.of_discard, by rw [settleLoop_discard0 h0, et]⟩
    by_cases h1 : 2 ≤ s.sbLen ∧ s.sb[1] ≠ sync1
    · exact ⟨t, ht.of_discard, by rw [settleLoop_discard1 h0 h1, et]⟩
    · exact ⟨s, .refl s, settleLoop_done h0 h1 (by omega) n c e⟩

/-- Everything `settle()` can return from at most 32 buffered bytes: no window, one accepted window, or one
rejected window (44_synchronizer.md R142). -/
theorem settle_cases (h : s.sbLen ≤ 32) :
    (∃ t, s.Discarding t ∧ s.settle = ⟨t, .ok, 0⟩) ∨
    (s.sbLen = 32 ∧ validate s.sb 32 = .ok ∧
      s.settle = ⟨s.accept s.streamBase, .ok, (SyncEvent.accepted (isResync s.disc)).word⟩) ∨
    (s.sbLen = 32 ∧ validate s.sb 32 ≠ .ok ∧
      ∃ t, (s.reject s.streamBase (validate s.sb 32)).Discarding t ∧
        s.settle = ⟨t, validate s.sb 32, (rejectEvent (validate s.sb 32)).word⟩) := by
  rw [State.settle]
  obtain ⟨t, ht, et⟩ := settleLoop_short 32 s.discard .ok 0 (by simp; omega)
  by_cases h0 : 1 ≤ s.sbLen ∧ s.sb[0] ≠ sync0
  · exact .inl ⟨t, ht.of_discard, by rw [settleLoop_discard0 h0, et]⟩
  by_cases h1 : 2 ≤ s.sbLen ∧ s.sb[1] ≠ sync1
  · exact .inl ⟨t, ht.of_discard, by rw [settleLoop_discard1 h0 h1, et]⟩
  by_cases h2 : s.sbLen = 32
  · by_cases hv : validate s.sb 32 = .ok
    · exact .inr (.inl ⟨h2, hv, settleLoop_accept h0 h1 h2 hv 32 .ok 0⟩)
    · obtain ⟨u, hu, eu⟩ := settleLoop_short 32
        (s.reject s.streamBase (validate s.sb 32)).discard (validate s.sb 32)
        (rejectEvent (validate s.sb 32)).word (by simp; omega)
      exact .inr (.inr ⟨h2, hv, u, hu.of_discard, by rw [settleLoop_reject h0 h1 h2 hv, eu]⟩)
  · exact .inl ⟨s, .refl s, settleLoop_done h0 h1 h2 32 .ok 0⟩

/-- The record and VALID stand, or a frame has been accepted into them and counted. -/
def State.KeepsOrAccepts (s t : State) : Prop :=
  (t.stat = s.stat ∧ t.raw = s.raw ∧ t.valid = s.valid) ∨ (t.valid = true ∧ t.nfrm = s.nfrm + 1)

/-- Whatever the buffer holds, the loop accepts at most one frame, since an accept ends it. -/
theorem settleLoop_keepsOrAccepts (n : Nat) (s : State) (c : ResultCode) (e : Word32) :
    s.KeepsOrAccepts (settleLoop n s c e).state := by
  induction n generalizing s c e with
  | zero => exact .inl ⟨rfl, rfl, rfl⟩
  | succ n ih =>
    by_cases h0 : 1 ≤ s.sbLen ∧ s.sb[0] ≠ sync0
    · rw [settleLoop_discard0 h0]; simpa [State.KeepsOrAccepts] using ih s.discard c e
    by_cases h1 : 2 ≤ s.sbLen ∧ s.sb[1] ≠ sync1
    · rw [settleLoop_discard1 h0 h1]; simpa [State.KeepsOrAccepts] using ih s.discard c e
    by_cases h2 : s.sbLen = 32
    · by_cases hv : validate s.sb 32 = .ok
      · rw [settleLoop_accept h0 h1 h2 hv]; exact .inr ⟨rfl, rfl⟩
      · rw [settleLoop_reject h0 h1 h2 hv]
        simpa [State.KeepsOrAccepts] using ih (s.reject s.streamBase (validate s.sb 32)).discard _ _
    · rw [settleLoop_done h0 h1 h2]; exact .inl ⟨rfl, rfl, rfl⟩

/-- So does `settle()`. -/
theorem settle_keepsOrAccepts : s.KeepsOrAccepts s.settle.state := settleLoop_keepsOrAccepts 33 s .ok 0

end Sys2Proof.Machine
end

/-! ### What every command and every step keeps -/

section
namespace Sys2Proof.Machine

variable {s t : State} {i : Instr}

/-- An empty sync buffer meets its invariant. -/
theorem State.syncInv_of_empty (hlen : s.sbLen = 0) (hsb : s.sb = Buf.zero) : s.SyncInv :=
  ⟨by omega, by omega, by omega, fun k _ => by simp [hsb]⟩

/-- A zeroed frame buffer meets its invariant. -/
theorem State.frameBufInv_of_empty (hlen : s.fbLen = 0) (hfb : s.fb = Buf.zero) : s.FrameBufInv :=
  ⟨by omega, fun k _ _ => by simp [hfb]⟩

/-- The frame of any record passes validation (43_encoder.md R133). -/
theorem validate_frame (stat : Vector Byte 2) (raw : Vector Half 12) : validate (frame stat raw) 32 = .ok :=
  (validate_ok_iff _ _).mpr
    ⟨rfl, frame_body stat raw 0 (by omega), frame_body stat raw 1 (by omega), frame_term stat raw,
      frame_csum stat raw⟩

/-! CLEAR meets every invariant, from any state, and so does reset (10_state.md R34). -/

theorem State.resetElements_syncInv (s : State) : s.resetElements.SyncInv := syncInv_of_empty rfl rfl

theorem State.resetElements_frameBufInv (s : State) : s.resetElements.FrameBufInv :=
  frameBufInv_of_empty rfl rfl

theorem State.resetElements_stickyInv (s : State) : s.resetElements.StickyInv := BitVec.getLsbD_zero

theorem State.resetElements_outputInv (s : State) : s.resetElements.OutputInv := .inl rfl

theorem State.resetElements_eofInv (s : State) : s.resetElements.EofInv := fun _ => rfl

/-- A response never sets STICKY bit 0 (60_exceptions.md R182), whatever else the command wrote. -/
theorem State.StickyInv.respond {u : State} {c : ResultCode} {d : Word32} (h : s.StickyInv)
    (hu : u.sticky = s.sticky) : (u.respond c d).StickyInv := by
  rw [State.StickyInv, State.respond_sticky, stickyAfter_bit_zero, hu]
  exact h

/-- The bytes pushed into FB keep its bound and its zero tail (41_checksum_validator.md R84). -/
theorem State.FrameBufInv.pushFb (h : s.FrameBufInv) (b : Byte) : (s.pushFb b).FrameBufInv := by
  rcases Nat.lt_or_ge s.fbLen 32 with hlt | hge
  · rw [State.pushFb_room s b hlt]
    refine ⟨by simp; omega, fun k _ hk => ?_⟩
    simp only [State.setFb_fbLen, State.setFb_fb] at hk ⊢
    rw [Fin.getElem_fin, Buf.store_getElem _ _ _ _ k.isLt, if_neg (by omega)]
    exact h.2 k (by omega) (by omega)
  · rw [State.pushFb_full s b hge]
    exact ⟨by simp, fun k h33 => by simp at h33⟩

/-- SPUSH re-establishes the sync-buffer invariant by settling; the other writers of SB empty it. -/
theorem Effect.syncInv (h : Effect s i t) (hs : s.SyncInv) : t.SyncInv := by
  cases h with
  | spush b opened =>
    have hlen : (s.received b).sbLen < 33 := by have := hs.1; simp; omega
    exact settleLoop_syncInv 33 (s.received b) .ok 0 hlen (State.SyncInv.received hs b)
  | clear => exact s.resetElements_syncInv
  | srestart => exact State.syncInv_of_empty rfl rfl
  | seof => exact State.syncInv_of_empty rfl rfl
  | _ => simpa [State.SyncInv] using hs

theorem Effect.frameBufInv (h : Effect s i t) (hs : s.FrameBufInv) : t.FrameBufInv := by
  cases h with
  | spush b opened =>
    obtain ⟨hfb, hlen, -⟩ := settle_sameOutside (s.received b)
    simpa [State.FrameBufInv, hfb, hlen] using hs
  | clear => exact s.resetElements_frameBufInv
  | fclr => exact State.frameBufInv_of_empty rfl rfl
  | fpush b => exact State.FrameBufInv.pushFb hs b
  | fcopy => exact ⟨by simp, fun k _ hk => absurd hk (by simp)⟩
  | _ => simpa [State.FrameBufInv] using hs

/-- STICKY is written by responses, which never set bit 0, and zeroed by CLEAR and CLRSTK. -/
theorem Effect.stickyInv (h : Effect s i t) (hs : s.StickyInv) : t.StickyInv := by
  cases h with
  | spush b opened =>
    obtain ⟨-, -, -, -, -, -, -, hsticky, -⟩ := settle_sameOutside (s.received b)
    exact hs.respond hsticky
  | clear => exact s.resetElements_stickyInv.respond rfl
  | clrstk => exact s.resetElements_stickyInv.respond rfl
  | _ => exact hs.respond (by simp)

theorem Effect.outputInv (h : Effect s i t) (hs : s.OutputInv) : t.OutputInv := by
  cases h with
  | spush b opened =>
    obtain ⟨-, -, hob, -⟩ := settle_sameOutside (s.received b)
    simpa [State.OutputInv, hob] using hs
  | clear => exact .inl rfl
  | encode => exact .inr (validate_frame s.stat s.raw)
  | _ => simpa [State.OutputInv] using hs

/-- SEOF empties the buffer, and SPUSH buffers nothing once EOF is set. -/
theorem Effect.eofInv (h : Effect s i t) (hs : s.EofInv) : t.EofInv := by
  cases h with
  | spush b opened =>
    obtain ⟨-, -, -, -, heof, -⟩ := settle_sameOutside (s.received b)
    intro ended
    simp [heof, opened] at ended
  | clear => exact fun _ => rfl
  | srestart => exact fun _ => rfl
  | seof => exact fun _ => rfl
  | _ => simpa [State.EofInv] using hs

/-- Settles O43: reset leaves the buffers empty and the masks zero. -/
theorem resetMeetsTheInvariants : Obligations.ResetMeetsTheInvariants :=
  ⟨State.reset.resetElements_syncInv, State.reset.resetElements_frameBufInv,
    State.reset.resetElements_stickyInv, State.reset.resetElements_outputInv, State.reset.resetElements_eofInv⟩

/-- Settles O44: the invariant is one that every command's effect keeps. -/
theorem everyStepKeepsTheSyncBufferInvariant : Obligations.EveryStepKeepsTheSyncBufferInvariant := by
  refine ⟨State.reset.resetElements_syncInv, fun s t h => ?_, fun s t hs h => ?_⟩
  · cases h
    exact s.resetElements_syncInv
  · exact step_keeps (P := State.SyncInv) (fun _ _ h => h) (fun s _ => s.resetElements_syncInv)
      (fun _ _ _ h => h) (fun _ _ _ h he => he.syncInv h) hs h

/-- Settles O45: each of the four invariants is one that every command's effect keeps. -/
theorem everyStepKeepsTheOtherInvariants : Obligations.EveryStepKeepsTheOtherInvariants := by
  refine ⟨fun s t => ?_, fun s t => ?_, fun s t => ?_, fun s t => ?_⟩
  · exact step_keeps (fun _ _ h => h) (fun s _ => s.resetElements_frameBufInv) (fun _ _ _ h => h)
      (fun _ _ _ h he => he.frameBufInv h)
  · exact step_keeps (fun _ _ h => h) (fun s _ => s.resetElements_stickyInv)
      (fun _ _ _ h => h.respond rfl)
      (fun _ _ _ h he => he.stickyInv h)
  · exact step_keeps (fun _ _ h => h) (fun s _ => s.resetElements_outputInv) (fun _ _ _ h => h)
      (fun _ _ _ h he => he.outputInv h)
  · exact step_keeps (fun _ _ h => h) (fun s _ => s.resetElements_eofInv) (fun _ _ _ h => h)
      (fun _ _ _ h he => he.eofInv h)

end Sys2Proof.Machine
end

/-! ### Which commands write which registers -/

section
namespace Sys2Proof.Machine

variable {s t : State} {i : Instr}

/-- A command with a selector is none of these, whose classes have none (30_encoding.md R64). -/
theorem Instr.ne_of_selects (selects : i.opcode.row.cls.selMask = 0) :
    i ≠ .clear ∧ i ≠ .decode ∧ i ≠ .seof ∧ i ≠ .srestart ∧ ∀ b, i ≠ .spush b := by
  have unselecting : (0xFF : Byte) ≠ 0 := by decide
  refine ⟨?_, ?_, ?_, ?_, fun b => ?_⟩ <;> rintro rfl <;> exact unselecting selects

/-- A read has a selector. -/
theorem Instr.selects_of_class_S (class_S : i.opcode.row.cls = .S) : i.opcode.row.cls.selMask = 0 := by
  rw [class_S]; rfl

/-- A read writes no register (R64). -/
theorem Instr.no_write_of_class_S (class_S : i.opcode.row.cls = .S) :
    (∀ sel b, i ≠ .wstat sel b) ∧ (∀ sel h, i ≠ .wraw sel h) ∧ ∀ sel p, i ≠ .wscaled sel p := by
  refine ⟨fun sel b => ?_, fun sel h => ?_, fun sel p => ?_⟩ <;> rintro rfl <;> cases class_S

/-- SPUSH of a byte to an open stream moves SPOS by one and keeps EOF, FB, FB_LEN and OB. -/
theorem received_settle_frame (b : Byte) (s : State) :
    let u := (s.received b).settle.state
    u.spos = s.spos + 1 ∧ u.eof = s.eof ∧ u.fb = s.fb ∧ u.fbLen = s.fbLen ∧ u.ob = s.ob := by
  obtain ⟨hfb, hlen, hob, hspos, heof, -⟩ := settle_sameOutside (s.received b)
  exact ⟨hspos, heof, hfb, hlen, hob⟩

/-- Settles O48: every other command's effect leaves the record alone. -/
theorem onlyTheNamedCommandsWriteTheRecord : Obligations.OnlyTheNamedCommandsWriteTheRecord := by
  intro i s t hexec hmem hspush hwstat hwraw hwscaled
  cases effect_of_exec hexec with
  | clear => simp at hmem
  | decode => simp at hmem
  | decodeFails => simp at hmem
  | spush b => exact absurd rfl (hspush b)
  | wstat j b => exact absurd rfl (hwstat j b)
  | wraw k h => exact absurd rfl (hwraw k h)
  | wscaled k p => exact absurd rfl (hwscaled k p)
  | _ => simp

/-- Settles O55: every other command's effect leaves the buffers alone. -/
theorem onlyTheNamedCommandsWriteTheBuffers : Obligations.OnlyTheNamedCommandsWriteTheBuffers := by
  intro i s t hexec hclear
  cases effect_of_exec hexec with
  | clear => exact absurd rfl hclear
  | spush b =>
    obtain ⟨-, -, hfb, hlen, hob⟩ := received_settle_frame b s
    exact ⟨fun _ => hob, fun _ _ _ => ⟨hfb, hlen⟩⟩
  | fpush b => exact ⟨fun _ => s.pushFb_ob b, fun _ _ hfpush => absurd rfl (hfpush b)⟩
  | _ => simp

/-- Settles O56: of the effects only SPUSH's, SEOF's, SRESTART's and CLEAR's move SPOS or EOF. -/
theorem positionAndEndOfStreamWriters : Obligations.PositionAndEndOfStreamWriters := by
  intro i s t hexec
  cases effect_of_exec hexec with
  | clear => simp [State.reset]
  | spush b opened =>
    obtain ⟨hspos, heof, -⟩ := received_settle_frame b s
    simp [hspos, heof, opened]
  | spushEnded b ended => simp [ended]
  | seofAgain ended => simp [ended]
  | read d class_S =>
    obtain ⟨hclear, -, hseof, hsrestart, hspush⟩ := Instr.ne_of_selects (Instr.selects_of_class_S class_S)
    simp [hclear, hseof, hsrestart, hspush]
  | badSelect selects =>
    obtain ⟨hclear, -, hseof, hsrestart, hspush⟩ := Instr.ne_of_selects selects
    simp [hclear, hseof, hsrestart, hspush]
  | _ => simp

/-- Settles O54: `settle()` returns after no window, one accepted or one rejected; no other effect but
SRESTART's and CLEAR's writes a counter. -/
theorem oneWindowPerPushAndNoOtherCounts : Obligations.OneWindowPerPushAndNoOtherCounts := by
  intro i s t hexec
  cases effect_of_exec hexec with
  | clear => simp
  | srestart => simp
  | spush b opened =>
    refine ⟨fun hspush => absurd rfl (hspush b), fun _ _ hs => ?_⟩
    have hlen : (s.received b).sbLen ≤ 32 := (State.SyncInv.received hs b).1
    rcases settle_cases (s.received b) hlen with
      ⟨u, ⟨v, m, d, rfl⟩, e⟩ | ⟨-, -, e⟩ | ⟨-, -, u, ⟨v, m, d, rfl⟩, e⟩
    · exact .inl (by simp [e])
    · exact .inr (.inl (by simp [e]))
    · exact .inr (.inr (by simp [e]))
  | _ => simp

/-- From a buffer that meets its invariant, settling the received byte keeps the record, VALID and NFRM, or
loads the record from the window that the byte completes. -/
theorem received_settle_valid (b : Byte) (hs : s.SyncInv) :
    let u := (s.received b).settle.state
    (u.stat = s.stat ∧ u.raw = s.raw ∧ u.valid = s.valid ∧ u.nfrm = s.nfrm) ∨
    (s.sbLen = 31 ∧ validate (s.sb.set 31 b) 32 = .ok ∧
      u.stat = frameStat (s.sb.set 31 b) ∧ u.raw = frameRaw (s.sb.set 31 b)) := by
  have hlen : (s.received b).sbLen ≤ 32 := (State.SyncInv.received hs b).1
  rcases settle_cases (s.received b) hlen with
    ⟨u, ⟨v, m, d, rfl⟩, e⟩ | ⟨hfull, hv, e⟩ | ⟨-, -, u, ⟨v, m, d, rfl⟩, e⟩
  · exact .inl (by simp [e])
  · have h31 : s.sbLen = 31 := by simpa using hfull
    rw [s.received_sb_full b h31] at hv
    refine .inr ⟨h31, hv, ?_⟩
    rw [e, State.accept_stat, State.accept_raw, s.received_sb_full b h31]
    exact ⟨rfl, rfl⟩
  · exact .inl (by simp [e])

/-- Settles O49: DECODE's effect and an accept inside `settle()` are the only ones that set VALID, and each
has validated the frame that it loads. -/
theorem validCertifiesAValidatedFrame : Obligations.ValidCertifiesAValidatedFrame := by
  intro i s t hexec clears
  cases effect_of_exec hexec with
  | clear => simp [clears, State.reset]
  | decode valid =>
    have hlen : s.fbLen = 32 := ((validate_ok_iff _ _).mp valid).1
    rw [hlen] at valid
    simp [clears, hlen, valid]
  | decodeFails invalid => simp [clears, invalid]
  | spush b opened =>
    rcases settle_keepsOrAccepts (s.received b) with
      ⟨hstat, hraw, hvalid⟩ | ⟨hvalid, hnfrm⟩
    · simp +contextual [clears, hstat, hraw, hvalid]
    · refine ⟨fun _ => .inr (.inr ⟨b, rfl, opened, hnfrm, fun hs => ?_⟩), by simp [clears], ?_⟩
      · refine (received_settle_valid b hs).resolve_left ?_
        rintro ⟨-, -, -, hsame⟩
        simp [hsame] at hnfrm
      · intro _ hcleared
        exact absurd (hvalid.symm.trans hcleared) (by decide)
  | read d class_S =>
    obtain ⟨hclear, hdecode, -⟩ := Instr.ne_of_selects (Instr.selects_of_class_S class_S)
    obtain ⟨hwstat, hwraw, hwscaled⟩ := Instr.no_write_of_class_S class_S
    simp +contextual [clears, hclear, hdecode, hwstat, hwraw, hwscaled]
  | badSelect selects =>
    obtain ⟨hclear, hdecode, -⟩ := Instr.ne_of_selects selects
    simp +contextual [clears, hclear, hdecode]
  | _ => simp +contextual [clears]

end Sys2Proof.Machine
end

/-! ### CSR and image reads, and the values after reset -/

section
namespace Sys2Proof.Machine

/-- An OK response writes RSP_CODE and RSP_DATA and nothing else (60_exceptions.md R182). -/
theorem State.respond_ok (s : State) (d : Word32) :
    s.respond .ok d = { s with rspCode := .ok, rspData := d } := rfl

/-- RDCSR at an index of the CSR space answers that CSR (45_control.md R163). -/
theorem exec_rdcsr (s : State) (k : Fin 13) :
    exec (.rdcsr k.val) s = .next { s with rspCode := .ok, rspData := s.csr k } := by
  rw [exec, execRdcsr, withSelect_fin, State.finish_ok, State.respond_ok]

theorem zextByte_eq (b : Byte) : zextByte b = BitVec.ofNat 32 b.toNat :=
  (BitVec.ofNat_toNat 32 b).symm

/-- RDIMG at an index of the image answers that byte (42_extractor_scaler.md R116). -/
theorem exec_rdimg (s : State) (k : Fin 26) : exec (.rdimg k.val) s =
    .next { s with rspCode := .ok, rspData := BitVec.ofNat 32 (imgByte s.stat s.raw k).toNat } := by
  rw [exec, execRdimg, withSelect_fin, State.finish_ok, State.respond_ok, zextByte_eq]

/-- Forcing bit 0 to 0 leaves the value rounded down to an even number (10_state.md R29). -/
theorem stickyCsr_eq (m : BitVec 9) : stickyCsr m = BitVec.ofNat 32 (m.toNat / 2 * 2) := by
  have hm := m.isLt
  have hand : m &&& 0b111111110#9 = (m >>> 1) <<< 1 := by
    ext k hk
    interval_cases k <;> simp
  rw [stickyCsr, hand]
  bv_omega

/-- LSEVT's word for each event: KIND in bits [1:0], RESYNC in bit 4 (10_state.md R28). -/
theorem SyncEvent.word_eq (e : SyncEvent) : e.word = match e with
    | .noWindow => 0 | .accepted false => 0x01 | .accepted true => 0x11
    | .rejectedTerminator => 0x02 | .rejectedChecksum => 0x03 := by
  cases e with
  | accepted rs => cases rs <;> rfl
  | _ => rfl

/-- A count below 64 as a 6-bit field, zero-extended. -/
theorem setWidth_ofNat_six {n : Nat} (h : n < 64) : (BitVec.ofNat 6 n).setWidth 32 = BitVec.ofNat 32 n := by
  bv_omega

/-- A flag in bit 0 of a CSR (10_state.md R32). -/
theorem flagBit_setWidth (v : Bool) : (flagBit v).setWidth 32 = BitVec.ofNat 32 v.toNat := by
  cases v <;> rfl

/-- SYNCST: SB_LEN in the low bits, EOF in bit 8 (10_state.md R32). -/
theorem State.syncst_eq (s : State) (h : s.sbLen < 64) :
    s.syncst = BitVec.ofNat 32 (s.sbLen + 256 * s.eof.toNat) := by
  rw [State.syncst, setWidth_ofNat_six h, flagBit_setWidth]
  cases s.eof with
  | false => simp
  | true =>
    apply BitVec.eq_of_toNat_eq
    have hor := Nat.two_pow_add_eq_or_of_lt (i := 8) (show s.sbLen < 2 ^ 8 by omega) 1
    simp [Nat.mod_eq_of_lt (show s.sbLen < 4294967296 by omega), ← hor]
    omega

theorem lowByte_toNat (h : Half) : (lowByte h).toNat = h.toNat % 256 := by
  simp [lowByte, BitVec.extractLsb'_toNat]

theorem highByte_toNat (h : Half) : (highByte h).toNat = h.toNat / 256 := by
  have := h.isLt
  simp [highByte, BitVec.extractLsb'_toNat, Nat.shiftRight_eq_div_pow]
  omega

/-- The image holds a field's low byte at the even index (42_extractor_scaler.md R103). -/
theorem imgByte_even (stat : Vector Byte 2) (raw : Vector Half 12) (i : Fin 12) :
    imgByte stat raw ⟨2 + 2 * i.val, by omega⟩ = lowByte raw[i] := by
  simp [imgByte, show (2 + 2 * i.val) ≠ 1 by omega]

/-- The image holds a field's high byte at the odd index (R103). -/
theorem imgByte_odd (stat : Vector Byte 2) (raw : Vector Half 12) (i : Fin 12) :
    imgByte stat raw ⟨3 + 2 * i.val, by omega⟩ = highByte raw[i] := by
  simp [imgByte, show (3 + 2 * i.val) ≠ 1 by omega, show (3 + 2 * i.val) % 2 = 1 by omega,
    show (3 + 2 * i.val - 2) / 2 = i.val by omega]

/-- Settles O13: RDCSR answers the CSR, and each CSR is assembled as stated. -/
theorem rdcsrReadsEveryCsr : Obligations.RdcsrReadsEveryCsr := by
  intro s hs hf reads
  have read (k : Fin 13) (v : Word32) (h : s.csr k = v) : reads k.val v := by
    rw [← h]; exact exec_rdcsr s k
  have hsb : s.sbLen < 64 := by have := hs.1; omega
  have hfb : s.fbLen < 64 := by have := hf.1; omega
  exact ⟨read 0 _ (stickyCsr_eq s.sticky), read 1 _ (s.syncst_eq hsb), read 2 _ rfl, read 3 _ rfl,
    read 4 _ rfl, read 5 _ rfl, read 6 _ rfl, read 7 _ s.lsevt.word_eq, read 8 _ rfl, read 9 _ rfl,
    read 10 _ (setWidth_ofNat_six hfb), read 11 _ (flagBit_setWidth s.valid), read 12 _ rfl⟩

/-- Settles O30: RDIMG answers the image byte, whose value is the byte of STAT or the half of a field. -/
theorem rdimgReadsTheLittleEndianImage : Obligations.RdimgReadsTheLittleEndianImage := by
  intro s reads
  have read (k : Fin 26) (v : Nat) (h : (imgByte s.stat s.raw k).toNat = v) : reads k.val v := by
    rw [← h]; exact exec_rdimg s k
  refine ⟨read 0 _ rfl, read 1 _ rfl, fun i => ⟨?_, ?_⟩⟩
  · exact read ⟨2 + 2 * i.val, by omega⟩ _ (by rw [imgByte_even, lowByte_toNat])
  · exact read ⟨3 + 2 * i.val, by omega⟩ _ (by rw [imgByte_odd, highByte_toNat])

/-- Settles O10: the elements are replicated zeros and zero registers, and CLEAR's effect is reset with
the host's side kept. -/
theorem resetAndClearSetEveryElement : Obligations.ResetAndClearSetEveryElement := by
  refine ⟨fun j => ?_, fun i => ?_, rfl, fun k => ⟨?_, ?_, ?_⟩, rfl, rfl, rfl, rfl, rfl, rfl, rfl, rfl,
    rfl, rfl, rfl, rfl, rfl, rfl, fun s => rfl, fun s => rfl⟩
  · exact Vector.getElem_replicate j.isLt
  · exact Vector.getElem_replicate i.isLt
  all_goals exact Vector.getElem_replicate k.isLt

end Sys2Proof.Machine
end

/-! ### Commands and the host's side -/

section
namespace Sys2Proof.Machine

/-- The host's side written whole: the level of the reset input and the inputs still to come (log entries 1
and 2). -/
def State.setHostSide (held : Bool) (rest : List HostEvent) (s : State) : State :=
  { s with resetHeld := held, pending := rest }

/-- `f` neither reads nor writes the host's side. -/
def IgnoresHostSide (f : State → State) : Prop :=
  ∀ (held : Bool) (rest : List HostEvent) (s : State),
    f (s.setHostSide held rest) = (f s).setHostSide held rest

/-- What ignores the host's side leaves it as it is. -/
theorem IgnoresHostSide.keeps {f : State → State} (hf : IgnoresHostSide f) (s : State) :
    (f s).resetHeld = s.resetHeld ∧ (f s).pending = s.pending := by
  have own : f s = (f s).setHostSide s.resetHeld s.pending := hf s.resetHeld s.pending s
  rw [own]
  exact ⟨rfl, rfl⟩

/-- The inputs still to come can be put in place before or after it. -/
theorem IgnoresHostSide.setPending {f : State → State} (hf : IgnoresHostSide f) (rest : List HostEvent)
    (s : State) : f (s.setPending rest) = (f s).setPending rest := by
  have swap : f (s.setPending rest) = (f s).setHostSide s.resetHeld rest := hf s.resetHeld rest s
  rw [swap, ← (hf.keeps s).1]
  rfl

/-- The selector check ignores the host's side when the rule does at every index. -/
theorem IgnoresHostSide.withSelect {n : Nat} (sel : Nat) {rule : Fin n → State → State}
    (hrule : ∀ k, IgnoresHostSide (rule k)) : IgnoresHostSide (withSelect n sel rule) := by
  intro held rest s
  rcases Nat.lt_or_ge sel n with h | h
  · rw [withSelect_lt h, withSelect_lt h, hrule]
  · rw [withSelect_ge h, withSelect_ge h]; rfl

theorem pushFb_ignoresHostSide (b : Byte) : IgnoresHostSide (State.pushFb b) := by
  intro held rest s
  rcases Nat.lt_or_ge s.fbLen 32 with h | h
  · rw [State.pushFb_room s b h, State.pushFb_room (s.setHostSide held rest) b h]; rfl
  · rw [State.pushFb_full s b h, State.pushFb_full (s.setHostSide held rest) b h]; rfl

theorem writeScaled_ignoresHostSide (p : Int) (k : Fin 12) : IgnoresHostSide (State.writeScaled p k) := by
  intro held rest s
  rw [State.writeScaled, State.writeScaled]
  cases unscale k p with
  | none => rfl
  | some u => rfl

/-- A change of state that the passes of `settle()` do not see, made before the loop or after it: the loop
reads SB, SB_LEN, SPOS and DISC, and changes the state by discards, accepts and rejects (44_synchronizer.md
R142). -/
theorem settleLoop_comm {g : State → State} (hsb : ∀ s, (g s).sb = s.sb) (hlen : ∀ s, (g s).sbLen = s.sbLen)
    (hbase : ∀ s, (g s).streamBase = s.streamBase) (hdisc : ∀ s, (g s).disc = s.disc)
    (discard : ∀ s, (g s).discard = g s.discard) (accept : ∀ s base, (g s).accept base = g (s.accept base))
    (reject : ∀ s base r, (g s).reject base r = g (s.reject base r))
    (n : Nat) (s : State) (c : ResultCode) (e : Word32) :
    settleLoop n (g s) c e = { settleLoop n s c e with state := g (settleLoop n s c e).state } := by
  induction n generalizing s c e with
  | zero => rfl
  | succ n ih =>
    by_cases h0 : 1 ≤ s.sbLen ∧ s.sb[0] ≠ sync0
    · rw [settleLoop_discard0 h0, settleLoop_discard0 (by rwa [hsb, hlen]), discard, ih]
    by_cases h1 : 2 ≤ s.sbLen ∧ s.sb[1] ≠ sync1
    · rw [settleLoop_discard1 h0 h1, settleLoop_discard1 (by rwa [hsb, hlen]) (by rwa [hsb, hlen]), discard,
        ih]
    by_cases h2 : s.sbLen = 32
    · by_cases hv : validate s.sb 32 = .ok
      · rw [settleLoop_accept h0 h1 h2 hv, settleLoop_accept (by rwa [hsb, hlen]) (by rwa [hsb, hlen])
          (by rwa [hlen]) (by rwa [hsb]), accept, hbase, hdisc]
      · rw [settleLoop_reject h0 h1 h2 hv, settleLoop_reject (by rwa [hsb, hlen]) (by rwa [hsb, hlen])
          (by rwa [hlen]) (by rwa [hsb]), reject, discard, hbase, hsb, ih]
    · rw [settleLoop_done h0 h1 h2, settleLoop_done (by rwa [hsb, hlen]) (by rwa [hsb, hlen]) (by rwa [hlen])]

/-- The host's side is such a change. -/
theorem settle_setHostSide (held : Bool) (rest : List HostEvent) (s : State) :
    (s.setHostSide held rest).settle = { s.settle with state := s.settle.state.setHostSide held rest } :=
  settleLoop_comm (g := State.setHostSide held rest) (fun _ => rfl) (fun _ => rfl) (fun _ => rfl)
    (fun _ => rfl) (fun _ => rfl) (fun _ _ => rfl) (fun _ _ _ => rfl) 33 s .ok 0

/-- SPUSH to an open stream settles the received byte and responds with what that returns
(44_synchronizer.md R143). -/
theorem State.pushStreamByte_eq (b : Byte) (s : State) : s.pushStreamByte b =
    (s.received b).settle.state.respond (s.received b).settle.code (s.received b).settle.evt := rfl

theorem pushStreamByte_ignoresHostSide (b : Byte) : IgnoresHostSide (State.pushStreamByte b) := by
  intro held rest s
  have hreceived : (s.setHostSide held rest).received b = (s.received b).setHostSide held rest := rfl
  rw [State.pushStreamByte_eq, State.pushStreamByte_eq, hreceived, settle_setHostSide]
  rfl

/-- Every command's rule is a function of the state that ignores the host's side: what the rule branches on
is none of it. -/
theorem exec_ignoresHostSide (i : Instr) :
    ∃ f, (∀ s, exec i s = .next (f s)) ∧ IgnoresHostSide f := by
  cases i with
  | nop => exact ⟨_, fun _ => rfl, fun _ _ _ => rfl⟩
  | clear => exact ⟨_, fun _ => rfl, fun _ _ _ => rfl⟩
  | clrstk => exact ⟨_, fun _ => rfl, fun _ _ _ => rfl⟩
  | spush b =>
    refine ⟨_, fun _ => rfl, fun held rest s => ?_⟩
    rw [show (s.setHostSide held rest).eof = s.eof from rfl, pushStreamByte_ignoresHostSide]
    cases s.eof with
    | false => rfl
    | true => rfl
  | seof =>
    refine ⟨_, fun _ => rfl, fun held rest s => ?_⟩
    rw [show (s.setHostSide held rest).eof = s.eof from rfl]
    cases s.eof with
    | false => rfl
    | true => rfl
  | srestart => exact ⟨_, fun _ => rfl, fun _ _ _ => rfl⟩
  | fclr => exact ⟨_, fun _ => rfl, fun _ _ _ => rfl⟩
  | fpush b =>
    refine ⟨_, fun _ => rfl, fun held rest s => ?_⟩
    rw [pushFb_ignoresHostSide]
    rfl
  | decode =>
    refine ⟨_, fun _ => rfl, fun held rest s => ?_⟩
    rw [show (s.setHostSide held rest).fb = s.fb from rfl,
      show (s.setHostSide held rest).fbLen = s.fbLen from rfl]
    cases validate s.fb s.fbLen with
    | _ => rfl
  | fcopy => exact ⟨_, fun _ => rfl, fun _ _ _ => rfl⟩
  | wstat sel b => exact ⟨_, fun _ => rfl, .withSelect sel fun _ _ _ _ => rfl⟩
  | wraw sel h => exact ⟨_, fun _ => rfl, .withSelect sel fun _ _ _ _ => rfl⟩
  | wscaled sel p => exact ⟨_, fun _ => rfl, .withSelect sel (writeScaled_ignoresHostSide p)⟩
  | encode => exact ⟨_, fun _ => rfl, fun _ _ _ => rfl⟩
  | rdraw sel => exact ⟨_, fun _ => rfl, .withSelect sel fun _ _ _ _ => rfl⟩
  | rdscaled sel => exact ⟨_, fun _ => rfl, .withSelect sel fun _ _ _ _ => rfl⟩
  | rdstat sel => exact ⟨_, fun _ => rfl, .withSelect sel fun _ _ _ _ => rfl⟩
  | rdob sel => exact ⟨_, fun _ => rfl, .withSelect sel fun _ _ _ _ => rfl⟩
  | rdimg sel => exact ⟨_, fun _ => rfl, .withSelect sel fun _ _ _ _ => rfl⟩
  | rdfb sel => exact ⟨_, fun _ => rfl, .withSelect sel fun _ _ _ _ => rfl⟩
  | rdsb sel => exact ⟨_, fun _ => rfl, .withSelect sel fun _ _ _ _ => rfl⟩
  | rdcsr sel => exact ⟨_, fun _ => rfl, .withSelect sel fun _ _ _ _ => rfl⟩

/-- So is the rule for every word at the port, an illegal word's too (30_encoding.md R66). -/
theorem issue_ignoresHostSide (w : CmdWord) :
    ∃ f, (∀ s : State, s.issue w = .next (f s)) ∧ IgnoresHostSide f := by
  cases hd : decode w with
  | command i =>
    obtain ⟨f, hf, blind⟩ := exec_ignoresHostSide i
    exact ⟨f, fun s => (State.issue_of_decode hd s).trans (hf s), blind⟩
  | illegal c =>
    exact ⟨fun s => s.raise .illegalCommand, fun s => by rw [State.issue, hd], fun _ _ _ => rfl⟩

/-- Settles O57: the command's rule ignores the host's side, and so leaves it as it is. -/
theorem commandsDoNotTouchTheHostsSide : Obligations.CommandsDoNotTouchTheHostsSide := by
  intro i s t held rest hexec
  obtain ⟨f, hf, blind⟩ := exec_ignoresHostSide i
  obtain rfl : f s = t := by simpa [hf] using hexec
  obtain ⟨hheld, hpending⟩ := blind.keeps s
  exact ⟨hheld, hpending, (hf _).trans (congrArg _ (blind held rest s))⟩

/-! ### Command sequences -/

/-- A run goes on from the state that its first step ends in. -/
theorem run_succ_of_step {s t : State} (h : step s = .next t) (k : Nat) :
    Sys2Proof.core.run (k + 1) s = Sys2Proof.core.run k t := by
  simp only [Host.Core.run, show Sys2Proof.core.step s = .next t from h]

/-- Settles O9, by induction on the words: each step takes one word, and its rule ignores the words still to
come. -/
theorem aCommandSequenceIsALeftFold : Obligations.ACommandSequenceIsALeftFold := by
  intro ws
  induction ws with
  | nil => intro s rest _; rfl
  | cons w ws ih =>
    intro s rest hr
    obtain ⟨f, hf, blind⟩ := issue_ignoresHostSide w
    have hissue (later : List HostEvent) : (s.setPending later).issue w = .next ((f s).setPending later) := by
      rw [hf, blind.setPending]
    have hstep (later : List HostEvent) :
        step (s.setPending (.command w :: later)) = .next ((f s).setPending later) :=
      calc step (s.setPending (.command w :: later)) = (s.setPending later).offer w :=
            step_of_pending_command rfl
        _ = (s.setPending later).issue w := State.offer_of_released (s := s.setPending later) hr w
        _ = .next ((f s).setPending later) := hissue later
    have hr' : (f s).resetHeld = false := (blind.keeps s).1.trans hr
    refine (run_succ_of_step (hstep _) ws.length).trans ((ih (f s) rest hr').trans ?_)
    exact congrArg (ws.foldl _) (hissue rest).symm

end Sys2Proof.Machine
end

/-! ### Reads -/

section
namespace Sys2Proof.Machine

/-- Answering the same twice is answering it once. -/
theorem State.respond_twice (c : ResultCode) (d : Word32) (s : State) :
    (s.respond c d).respond c d = s.respond c d := by
  simp [State.respond, stickyAfter_twice]

/-- The rule of a read: answer OK with the value viewed at the selected index (20_memory.md R47). -/
def readRule {n : Nat} (view : Fin n → State → Word32) (k : Fin n) (s : State) : State :=
  s.finish .ok (view k s)

/-- Each of the eight reads answers a view of the state at its selector, and no view sees the response port. -/
theorem exec_read {i : Instr}
    (hi : ∃ sel, i = .rdraw sel ∨ i = .rdscaled sel ∨ i = .rdstat sel ∨ i = .rdob sel ∨ i = .rdimg sel ∨
      i = .rdfb sel ∨ i = .rdsb sel ∨ i = .rdcsr sel) :
    ∃ (n sel : Nat) (view : Fin n → State → Word32),
      (∀ s, exec i s = .next (withSelect n sel (readRule view) s)) ∧
      ∀ k s d, view k (s.respond .ok d) = view k s := by
  obtain ⟨sel, rfl | rfl | rfl | rfl | rfl | rfl | rfl | rfl⟩ := hi
  · exact ⟨12, sel, fun k s => trunc32 (ext k s.raw[k]), fun _ => rfl, fun _ _ _ => rfl⟩
  · exact ⟨12, sel, fun k s => trunc32 (scale k s.raw[k]), fun _ => rfl, fun _ _ _ => rfl⟩
  · exact ⟨2, sel, fun k s => zextByte s.stat[k], fun _ => rfl, fun _ _ _ => rfl⟩
  · exact ⟨32, sel, fun k s => zextByte s.ob[k], fun _ => rfl, fun _ _ _ => rfl⟩
  · exact ⟨26, sel, fun k s => zextByte (imgByte s.stat s.raw k), fun _ => rfl, fun _ _ _ => rfl⟩
  · exact ⟨32, sel, fun k s => zextByte s.fb[k], fun _ => rfl, fun _ _ _ => rfl⟩
  · exact ⟨32, sel, fun k s => zextByte s.sb[k], fun _ => rfl, fun _ _ _ => rfl⟩
  · exact ⟨13, sel, fun k s => s.csr k, fun _ => rfl, fun _ _ _ => rfl⟩

/-- Settles O52: in range the read answers a view that its own response does not change; out of range it
raises BadSelect, and raising it again changes nothing. -/
theorem readsHaveNoSideEffect : Obligations.ReadsHaveNoSideEffect := by
  intro i s t hi hexec
  obtain ⟨n, sel, view, hread, hview⟩ := exec_read hi
  obtain rfl : withSelect n sel (readRule view) s = t := by simpa [hread] using hexec
  rw [hread]
  rcases Nat.lt_or_ge sel n with h | h
  · simp only [withSelect_lt h, readRule, State.finish_ok, hview, State.respond_twice]
    exact ⟨.inl ⟨rfl, rfl⟩, trivial⟩
  · simp only [withSelect_ge h, State.respond_twice]
    exact ⟨.inr rfl, trivial⟩

end Sys2Proof.Machine
end

/-! ### Commands and their words (30_encoding.md R60 to R68) -/

section
namespace Sys2Proof

/-! A word is a command of an opcode exactly when it matches the opcode's row (R64, R66). -/

theorem decode_of_matches {w : CmdWord} {o : Opcode} (h : w &&& o.row.cls.mask = o.matchValue) :
    decode w = .command (o.operands w) := by
  obtain ⟨hopc, -⟩ := (matches_iff w o).mp h
  rw [decode, hopc, lookupOpcode_opc]
  exact if_pos h

theorem decode_eq_command_iff {w : CmdWord} {i : Instr} : decode w = .command i ↔
    ∃ o : Opcode, w &&& o.row.cls.mask = o.matchValue ∧ o.operands w = i := by
  constructor
  · intro h
    rw [decode] at h
    split at h
    next => cases h
    next o _ =>
      split at h
      next hm => cases h; exact ⟨o, hm, rfl⟩
      next => cases h
  · rintro ⟨o, hm, rfl⟩
    exact decode_of_matches hm

@[simp] theorem Opcode.opcode_operands (o : Opcode) (w : CmdWord) : (o.operands w).opcode = o := by
  cases o <;> rfl

/-- No word matches two rows, since no two opcodes share a byte (R63, R65). -/
theorem opcode_unique_of_matches {w : CmdWord} {o o' : Opcode} (h : w &&& o.row.cls.mask = o.matchValue)
    (h' : w &&& o'.row.cls.mask = o'.matchValue) : o = o' := by
  obtain ⟨hopc, -⟩ := (matches_iff w o).mp h
  obtain ⟨hopc', -⟩ := (matches_iff w o').mp h'
  have hlookup := lookupOpcode_opc o'
  rwa [← hopc', hopc, lookupOpcode_opc, Option.some_inj] at hlookup

/-! #### From a command to its word and back -/

/-- Every command's word matches its own row (R64). -/
theorem encode_matches (i : Instr) : encode i &&& i.opcode.row.cls.mask = i.opcode.matchValue := by
  cases i with
  | nop => exact Laws.EncodedZeroBits.nop
  | clear => exact Laws.EncodedZeroBits.clear
  | clrstk => exact Laws.EncodedZeroBits.clrstk
  | spush b => exact Laws.EncodedZeroBits.spush b
  | seof => exact Laws.EncodedZeroBits.seof
  | srestart => exact Laws.EncodedZeroBits.srestart
  | fclr => exact Laws.EncodedZeroBits.fclr
  | fpush b => exact Laws.EncodedZeroBits.fpush b
  | decode => exact Laws.EncodedZeroBits.decode
  | fcopy => exact Laws.EncodedZeroBits.fcopy
  | wstat sel b => exact Laws.EncodedZeroBits.wstat sel b
  | wraw sel h => exact Laws.EncodedZeroBits.wraw sel h
  | wscaled sel p => exact Laws.EncodedZeroBits.wscaled sel p
  | encode => exact Laws.EncodedZeroBits.encode
  | rdraw sel => exact Laws.EncodedZeroBits.rdraw sel
  | rdscaled sel => exact Laws.EncodedZeroBits.rdscaled sel
  | rdstat sel => exact Laws.EncodedZeroBits.rdstat sel
  | rdob sel => exact Laws.EncodedZeroBits.rdob sel
  | rdimg sel => exact Laws.EncodedZeroBits.rdimg sel
  | rdfb sel => exact Laws.EncodedZeroBits.rdfb sel
  | rdsb sel => exact Laws.EncodedZeroBits.rdsb sel
  | rdcsr sel => exact Laws.EncodedZeroBits.rdcsr sel

@[simp] theorem selField_encode (i : Instr) : selField (encode i) = BitVec.ofNat 8 i.selOperand :=
  selField_assembleWord ..

@[simp] theorem dataField_encode (i : Instr) : dataField (encode i) = i.dataOperand :=
  dataField_assembleWord ..

/-- A selector that fits SEL is read back from it (R62). -/
theorem toNat_ofNat_of_selFits {sel : Nat} (h : selFits sel = true) :
    (BitVec.ofNat 8 sel).toNat = sel := by
  rw [BitVec.toNat_ofNat, Nat.mod_eq_of_lt (of_decide_eq_true h)]

/-- A signed `P` that fits DATA is read back from it (R62). -/
theorem toInt_ofInt_of_scaledFits {p : Int} (h : scaledFits p = true) : (BitVec.ofInt 32 p).toInt = p := by
  obtain ⟨hlo, hhi⟩ := of_decide_eq_true h
  exact BitVec.toInt_ofInt_eq_self (by decide) hlo (by omega)

/-- The operands of a well-formed command are read back from its word: each fits its field. -/
theorem operands_encode {i : Instr} (h : i.wf = true) : i.opcode.operands (encode i) = i := by
  cases i with
  | wscaled sel p =>
    obtain ⟨hs, hp⟩ := Bool.and_eq_true_iff.mp h
    simp [Instr.opcode, Opcode.operands, Instr.selOperand, Instr.dataOperand, toNat_ofNat_of_selFits hs,
      toInt_ofInt_of_scaledFits hp]
  | wstat sel _ | wraw sel _ | rdraw sel | rdscaled sel | rdstat sel | rdob sel | rdimg sel | rdfb sel
  | rdsb sel | rdcsr sel =>
    simp [Instr.opcode, Opcode.operands, Instr.selOperand, Instr.dataOperand,
      toNat_ofNat_of_selFits (sel := sel) h]
  | _ => simp [Instr.opcode, Opcode.operands, Instr.dataOperand]

/-- Settles O1: the command's word matches its row, and its operands are read back. -/
theorem everyCommandDecodesFromItsWord : Obligations.EveryCommandDecodesFromItsWord := by
  intro i h
  rw [decode_of_matches (encode_matches i), operands_encode h]

/-! #### From a word to its command and back -/

@[simp] theorem selFits_toNat (b : Byte) : selFits b.toNat = true := decide_eq_true b.isLt

@[simp] theorem scaledFits_toInt (d : Word32) : scaledFits d.toInt = true :=
  decide_eq_true ⟨d.le_toInt, Int.le_of_lt_add_one d.toInt_lt⟩

/-- The operands of any word fit the fields they come from (R62). -/
@[simp] theorem wf_operands (o : Opcode) (w : CmdWord) : (o.operands w).wf = true := by
  cases o with
  | wscaled => simp [Opcode.operands, Instr.wf]
  | wstat | wraw | rdraw | rdscaled | rdstat | rdob | rdimg | rdfb | rdsb | rdcsr => exact selFits_toNat _
  | _ => rfl

/-- A word with no bit set above the low `n` is its low `n` bits. -/
theorem setWidth_setWidth_of_high_zero {n : Nat} {d : Word32}
    (h : d &&& BitVec.allOnes 32 <<< n = 0) : (d.setWidth n).setWidth 32 = d := by
  ext k hk
  have hbit : (d &&& BitVec.allOnes 32 <<< n).getLsbD k = false := by rw [h]; exact BitVec.getLsbD_zero
  by_cases hkn : k < n
  · simp [hkn, hk]
  · simp only [BitVec.getLsbD_and, BitVec.getLsbD_shiftLeft, BitVec.getLsbD_allOnes] at hbit
    simpa [hk, hkn, show k - n < 32 by omega] using hbit

/-- SEL and DATA of a matching word are the command's operands: what the class does not use is zero (R64). -/
theorem operands_fields {w : CmdWord} {o : Opcode} (hs : selField w &&& o.row.cls.selMask = 0)
    (hd : dataField w &&& o.row.cls.dataMask = 0) :
    BitVec.ofNat 8 (o.operands w).selOperand = selField w ∧ (o.operands w).dataOperand = dataField w := by
  have sel_zero (h : selField w &&& BitVec.allOnes 8 = 0) : BitVec.ofNat 8 0 = selField w := by
    rw [BitVec.and_allOnes] at h; exact h.symm
  have data_zero (h : dataField w &&& BitVec.allOnes 32 = 0) : 0 = dataField w := by
    rw [BitVec.and_allOnes] at h; exact h.symm
  have sel_back : BitVec.ofNat 8 (selField w).toNat = selField w := by
    rw [BitVec.ofNat_toNat, BitVec.setWidth_eq]
  cases o with
  | nop | clear | clrstk | seof | srestart | fclr | decode | fcopy | encode =>
    exact ⟨sel_zero hs, data_zero hd⟩
  | spush | fpush => exact ⟨sel_zero hs, setWidth_setWidth_of_high_zero hd⟩
  | wstat | wraw => exact ⟨sel_back, setWidth_setWidth_of_high_zero hd⟩
  | wscaled => exact ⟨sel_back, BitVec.ofInt_toInt⟩
  | rdraw | rdscaled | rdstat | rdob | rdimg | rdfb | rdsb | rdcsr => exact ⟨sel_back, data_zero hd⟩

/-- A matching word is the word of the command it holds: its fields are the command's, and RSV is zero. -/
theorem encode_operands {w : CmdWord} {o : Opcode} (h : w &&& o.row.cls.mask = o.matchValue) :
    encode (o.operands w) = w := by
  obtain ⟨hopc, hs, hrsv, hd⟩ := (matches_iff w o).mp h
  obtain ⟨hsel, hdata⟩ := operands_fields hs hd
  rw [encode, Opcode.opcode_operands, ← hopc, hsel, hdata, ← hrsv, assembleWord_fields]

/-- Settles O2: a word that decodes matches a row, and is the word of the operands read from it. -/
theorem everyDecodedWordIsTheCommandsWord : Obligations.EveryDecodedWordIsTheCommandsWord := by
  intro w i h
  obtain ⟨o, hm, rfl⟩ := decode_eq_command_iff.mp h
  exact ⟨wf_operands o w, encode_operands hm⟩

/-! #### The table of matches and masks -/

/-- Settles O3: each row of the table holds the opcode's own match value and mask. -/
theorem wordsMatchTheTableOfMatchesAndMasks : Obligations.WordsMatchTheTableOfMatchesAndMasks := by
  unfold Obligations.WordsMatchTheTableOfMatchesAndMasks
  intro table
  have table_eq : table = Opcode.all.map fun o => (o, o.matchValue, o.row.cls.mask) := by decide
  have row_eq {o : Opcode} {m k : CmdWord} (h : (o, m, k) ∈ table) :
      m = o.matchValue ∧ k = o.row.cls.mask := by
    rw [table_eq] at h
    obtain ⟨_, -, hrow⟩ := List.mem_map.mp h
    cases hrow
    exact ⟨rfl, rfl⟩
  refine ⟨rfl, fun w o m k h => ?_, fun w o o' m k m' k' h h' hm hm' => ?_⟩
  · obtain ⟨rfl, rfl⟩ := row_eq h
    constructor
    · intro hm
      exact ⟨o.operands w, decode_of_matches hm, o.opcode_operands w⟩
    · rintro ⟨i, hi, rfl⟩
      obtain ⟨o, hm, rfl⟩ := decode_eq_command_iff.mp hi
      rwa [o.opcode_operands]
  · obtain ⟨rfl, rfl⟩ := row_eq h
    obtain ⟨rfl, rfl⟩ := row_eq h'
    exact opcode_unique_of_matches hm hm'

/-! #### Words that match no row -/

/-- A word that matches no row is no command (R64). -/
theorem decode_illegal_of_no_match {w : CmdWord}
    (h : ∀ o : Opcode, w &&& o.row.cls.mask ≠ o.matchValue) : ∃ e, decode w = .illegal e := by
  cases hd : decode w with
  | illegal e => exact ⟨e, rfl⟩
  | command i =>
    obtain ⟨o, hm, -⟩ := decode_eq_command_iff.mp hd
    exact absurd hm (h o)

/-- OPC of a matching word is the opcode's number (R63). -/
theorem opcode_number_of_matches {w : CmdWord} {o : Opcode} (h : w &&& o.row.cls.mask = o.matchValue) :
    (w >>> 56).toNat = o.row.opc.toNat := by
  obtain ⟨hopc, -⟩ := (matches_iff w o).mp h
  have hw := w.isLt
  rw [← hopc, opcField, BitVec.extractLsb'_toNat, BitVec.toNat_ushiftRight, Nat.shiftRight_eq_div_pow]
  omega

/-- The must-be-zero bits of a matching word are those of its class's mask below OPC, and are zero (R64). -/
theorem zero_bits_of_matches {w z : CmdWord} {o : Opcode} {c : CmdClass}
    (h : w &&& o.row.cls.mask = o.matchValue) (hc : o.row.cls = c)
    (hz : c.mask &&& 0x00FFFFFFFFFFFFFF = z) : w &&& z = 0 := by
  rw [← hz, ← hc, ← BitVec.and_assoc, h]
  cases o <;> rfl

/-- No opcode's number is in R68's reserved ranges. -/
theorem Opcode.number_not_reserved (o : Opcode) : let opc := o.row.opc.toNat
    ¬ (0x03 ≤ opc ∧ opc ≤ 0x0F) ∧ ¬ (0x13 ≤ opc ∧ opc ≤ 0x1F) ∧ ¬ (0x24 ≤ opc ∧ opc ≤ 0x2F) ∧
    ¬ (0x33 ≤ opc ∧ opc ≤ 0x3F) ∧ ¬ (0x41 ≤ opc ∧ opc ≤ 0x4F) ∧ ¬ (0x58 ≤ opc ∧ opc ≤ 0xFF) := by
  cases o <;> decide

/-- The number of an opcode decides its class (R63). -/
theorem Opcode.class_of_number (o : Opcode) : let opc := o.row.opc.toNat
    (opc ∈ [0x00, 0x01, 0x02, 0x11, 0x12, 0x20, 0x22, 0x23, 0x40] → o.row.cls = .N) ∧
    (opc ∈ [0x10, 0x21] → o.row.cls = .B) ∧
    (opc ∈ [0x50, 0x51, 0x52, 0x53, 0x54, 0x55, 0x56, 0x57] → o.row.cls = .S) ∧
    (opc = 0x30 → o.row.cls = .SB) ∧ (opc = 0x31 → o.row.cls = .SH) ∧ (opc = 0x32 → o.row.cls = .SW) := by
  cases o <;> decide

end Sys2Proof
end

/-! ### Words and selectors that are refused (30_encoding.md R67, R68) -/

section
namespace Sys2Proof.Machine

/-- A word that is no command raises IllegalCommand and changes nothing else (R68, 60_exceptions.md R183). -/
theorem State.issue_of_illegal {w : CmdWord} {e : DecodeError} (h : decode w = .illegal e) (s : State) :
    s.issue w = .next { s with
      rspCode := .illegalCommand, rspData := 0, sticky := s.sticky ||| 0x020#9 } := by
  rw [State.issue, h]
  rfl

/-- A released block's step with a command word at the head of the port issues the word (log entry 1). -/
theorem step_of_released_command {s : State} {w : CmdWord} {rest : List HostEvent}
    (hr : s.resetHeld = false) (hp : s.pending = .command w :: rest) :
    step s = (s.setPending rest).issue w :=
  (step_of_pending_command hp).trans (State.offer_of_released (s := s.setPending rest) hr w)

/-- Settles O4: such a word matches no row, as a matching word's number is not reserved and its class's
must-be-zero bits are zero. -/
theorem reservedOpcodesAndSetZeroBitsAreIllegal : Obligations.ReservedOpcodesAndSetZeroBitsAreIllegal := by
  intro s w rest hr hp hbad
  have no_match (o : Opcode) : w &&& o.row.cls.mask ≠ o.matchValue := by
    intro hm
    obtain ⟨h1, h2, h3, h4, h5, h6⟩ := o.number_not_reserved
    obtain ⟨hN, hB, hS, hSB, hSH, hSW⟩ := o.class_of_number
    simp only [opcode_number_of_matches hm, h1, h2, h3, h4, h5, h6, false_or] at hbad
    rcases hbad with ⟨hn, hz⟩ | ⟨hn, hz⟩ | ⟨hn, hz⟩ | ⟨hn, hz⟩ | ⟨hn, hz⟩ | ⟨hn, hz⟩
    · exact hz (zero_bits_of_matches hm (hN hn) rfl)
    · exact hz (zero_bits_of_matches hm (hB hn) rfl)
    · exact hz (zero_bits_of_matches hm (hS hn) rfl)
    · exact hz (zero_bits_of_matches hm (hSB hn) rfl)
    · exact hz (zero_bits_of_matches hm (hSH hn) rfl)
    · exact hz (zero_bits_of_matches hm (hSW hn) rfl)
  obtain ⟨e, he⟩ := decode_illegal_of_no_match no_match
  exact (step_of_released_command hr hp).trans (State.issue_of_illegal he _)

/-- Out of its range a selector's answer is BadSelect, and nothing else changes (R67). -/
theorem withSelect_badSelect {n sel : Nat} (h : n ≤ sel) (rule : Fin n → State → State) (s : State) :
    withSelect n sel rule s = { s with
      rspCode := .badSelect, rspData := 0, sticky := s.sticky ||| 0x040#9 } := by
  rw [withSelect_ge h]
  rfl

/-- Settles O6: every command with a selector checks it against its own range. -/
theorem selectorsOutOfRangeRaiseBadSelect : Obligations.SelectorsOutOfRangeRaiseBadSelect := by
  intro s sel b h p bad
  have refused {n : Nat} (rule : Fin n → State → State) (hn : n ≤ sel) :
      .next (withSelect n sel rule s) = bad := congrArg _ (withSelect_badSelect hn rule s)
  exact ⟨fun hn => ⟨refused _ hn, refused _ hn⟩,
    fun hn => ⟨refused _ hn, refused _ hn, refused _ hn, refused _ hn⟩,
    fun hn => ⟨refused _ hn, refused _ hn, refused _ hn⟩, refused _, refused _⟩

/-- Settles O5: the good words are those of their commands, which decode back; of the bad words two match
no row and the third has a selector out of range. -/
theorem exampleWordsDecodeAsTheSpecSays : Obligations.ExampleWordsDecodeAsTheSpecSays := by
  have example_word {w : CmdWord} {i : Instr} (hwf : i.wf = true) (hw : encode i = w) :
      encode i = w ∧ decode w = .command i := ⟨hw, hw ▸ everyCommandDecodesFromItsWord i hwf⟩
  refine ⟨example_word rfl rfl, example_word rfl rfl, example_word rfl rfl, example_word rfl rfl,
    example_word rfl rfl, example_word rfl rfl, fun s => ?_, fun s => ?_, fun s => ?_⟩
  · exact State.issue_of_illegal (e := .mustBeZero .spush) (by decide) s
  · exact State.issue_of_illegal (e := .mustBeZero .rdraw) (by decide) s
  · rw [State.issue_of_decode (i := .rdraw 12) (by decide)]
    exact congrArg Host.Outcome.next (withSelect_badSelect (by decide) _ s)

end Sys2Proof.Machine
end

/-! ### FLOAD (30_encoding.md R70) -/

section
namespace Sys2Proof.Machine

/-- FB holds the first 32 of `bytes`, zero above them, and FB_LEN their number, saturated at 33
(10_state.md R23). -/
def State.FbHolds (bytes : List Byte) (s : State) : Prop :=
  s.fbLen = min bytes.length 33 ∧ ∀ k : Fin 32, s.fb[k] = bytes.getD k.val 0

/-- `t` differs from `s` in FB, FB_LEN and the response port only. -/
def State.FbFrame (s t : State) : Prop :=
  t = { s with fb := t.fb, fbLen := t.fbLen, rspCode := t.rspCode, rspData := t.rspData }

variable {s t u : State}

theorem State.FbFrame.trans (h : s.FbFrame t) (h' : t.FbFrame u) : s.FbFrame u := by
  rw [State.FbFrame] at h h' ⊢
  rw [h', h]

/-- FPUSH appends its byte to what FB holds (41_checksum_validator.md R84). -/
theorem State.FbHolds.pushFb {bytes : List Byte} (h : s.FbHolds bytes) (b : Byte) :
    (s.pushFb b).FbHolds (bytes ++ [b]) := by
  obtain ⟨hlen, hfb⟩ := h
  rcases Nat.lt_or_ge s.fbLen 32 with hlt | hge
  · have hn : s.fbLen = bytes.length := by omega
    rw [State.pushFb_room s b hlt]
    refine ⟨by simp; omega, fun k => ?_⟩
    rw [State.setFb_fb, Fin.getElem_fin, Buf.store_getElem _ _ _ _ k.isLt, hn]
    have hfbk : s.fb[k.val] = bytes.getD k.val 0 := hfb k
    rcases Nat.lt_trichotomy bytes.length k.val with hk | hk | hk
    · rw [if_neg (by omega), hfbk, List.getD_append_right _ _ _ _ (by omega),
        List.getD_eq_default _ _ (by omega), List.getD_eq_default _ _ (by simp; omega)]
    · rw [if_pos hk, List.getD_append_right _ _ _ _ (by omega), hk, Nat.sub_self, List.getD_cons_zero]
    · rw [if_neg (by omega), hfbk, List.getD_append _ _ _ _ hk]
  · rw [State.pushFb_full s b hge]
    refine ⟨by simp; omega, fun k => ?_⟩
    rw [State.setFb_fb, hfb k, List.getD_append _ _ _ _ (by omega)]

theorem State.fbFrame_fpush (s : State) (b : Byte) (d : Word32) :
    s.FbFrame ((s.pushFb b).respond .ok d) := by
  rcases Nat.lt_or_ge s.fbLen 32 with hlt | hge
  · rw [State.pushFb_room s b hlt]; rfl
  · rw [State.pushFb_full s b hge]; rfl

/-- FPUSH of each byte in turn appends them all, and touches nothing else. -/
theorem runCommands_fpush (bytes : List Byte) : ∀ (s : State) (held : List Byte), s.FbHolds held →
    ∃ t, runCommands (bytes.map .fpush) s = .next t ∧ t.FbHolds (held ++ bytes) ∧ s.FbFrame t := by
  induction bytes with
  | nil => exact fun s held h => ⟨s, rfl, by simpa using h, rfl⟩
  | cons b bytes ih =>
    intro s held h
    obtain ⟨t, hrun, hholds, hframe⟩ :=
      ih ((s.pushFb b).respond .ok (zextCount (s.pushFb b).fbLen)) (held ++ [b]) (h.pushFb b)
    exact ⟨t, hrun, by simpa using hholds, .trans (s.fbFrame_fpush b _) hframe⟩

/-- Settles O17: FCLR leaves FB holding nothing, and the FPUSHes append the bytes. -/
theorem floadLoadsAnyByteSequence : Obligations.FloadLoadsAnyByteSequence := by
  intro s bytes
  have hfclr : s.FbFrame ((s.setFb Buf.zero 0).respond .ok 0) := rfl
  obtain ⟨t, hrun, ⟨hlen, hfb⟩, hframe⟩ :=
    runCommands_fpush bytes ((s.setFb Buf.zero 0).respond .ok 0) [] ⟨rfl, fun k => by simp⟩
  exact ⟨t, hrun, hlen, hfb, hfclr.trans hframe⟩

end Sys2Proof.Machine
end

/-! ### The assembler (30_encoding.md R69, R70) -/

section
namespace Sys2Proof.Machine

/-- What succeeds in sequence has succeeded in each part. -/
theorem asm_bind_eq_ok {α β : Type} {x : Asm α} {f : α → Asm β} {r : β} (h : x >>= f = .ok r) :
    ∃ a, x = .ok a ∧ f a = .ok r := by
  cases x with
  | error e => cases h
  | ok a => exact ⟨a, rfl, h⟩

/-- The words of a line are none, those of a pseudo-command's expansion, or one command's word. -/
theorem assembleLine_cases {line : Text} {words : List CmdWord} (h : assembleLine line = .ok words) :
    words = [] ∨ (∃ p : Pseudo, words = p.expand.map encode) ∨
      ∃ o ops w, assembleCommand o ops = .ok w ∧ words = [w] := by
  simp only [assembleLine] at h
  split at h
  next => cases h; exact .inl rfl
  next =>
    split at h
    next =>
      obtain ⟨p, -, hp⟩ := asm_bind_eq_ok h
      cases hp
      exact .inr (.inl ⟨p, rfl⟩)
    next =>
      split at h
      next o _ =>
        obtain ⟨w, hw, hwords⟩ := asm_bind_eq_ok h
        cases hwords
        exact .inr (.inr ⟨o, _, w, hw, rfl⟩)
      next => cases h

/-- A word assembled with an opcode's byte matches its row when the operands stay in the bits its class uses
(R64). -/
theorem assembleWord_matches {o : Opcode} {c : CmdClass} {sel : Byte} {data : Word32} (hc : o.row.cls = c)
    (hs : sel &&& c.selMask = 0) (hd : data &&& c.dataMask = 0) :
    assembleWord o.row.opc sel 0 data &&& o.row.cls.mask = o.matchValue := by
  rw [matches_iff, opcField_assembleWord, selField_assembleWord, rsvField_assembleWord,
    dataField_assembleWord, hc]
  exact ⟨rfl, hs, rfl, hd⟩

/-- A command line's word matches the opcode's row: each class's operands are read into the bits it uses. -/
theorem assembleCommand_matches {o : Opcode} {ops : List Text} {w : CmdWord}
    (h : assembleCommand o ops = .ok w) : w &&& o.row.cls.mask = o.matchValue := by
  unfold assembleCommand at h
  split at h
  next hc =>
    cases h
    exact assembleWord_matches hc rfl rfl
  next x hc =>
    obtain ⟨b, -, hw⟩ := asm_bind_eq_ok h
    cases hw
    exact assembleWord_matches hc rfl (Laws.EncodedZeroBits.byte_data b)
  next x hc =>
    obtain ⟨sel, -, hw⟩ := asm_bind_eq_ok h
    cases hw
    exact assembleWord_matches hc BitVec.and_zero rfl
  next x y hc =>
    obtain ⟨sel, -, hrest⟩ := asm_bind_eq_ok h
    obtain ⟨b, -, hw⟩ := asm_bind_eq_ok hrest
    cases hw
    exact assembleWord_matches hc BitVec.and_zero (Laws.EncodedZeroBits.byte_data b)
  next x y hc =>
    obtain ⟨sel, -, hrest⟩ := asm_bind_eq_ok h
    obtain ⟨half, -, hw⟩ := asm_bind_eq_ok hrest
    cases hw
    exact assembleWord_matches hc BitVec.and_zero (Laws.EncodedZeroBits.half_data half)
  next x y hc =>
    obtain ⟨sel, -, hrest⟩ := asm_bind_eq_ok h
    obtain ⟨data, -, hw⟩ := asm_bind_eq_ok hrest
    cases hw
    exact assembleWord_matches hc BitVec.and_zero BitVec.and_zero
  next => cases h

/-- A pseudo-command expands to well-formed commands (R70): the selectors it writes are those of STAT and
RAW. -/
theorem Pseudo.wf_expand (p : Pseudo) : ∀ i ∈ p.expand, i.wf = true := by
  cases p with
  | sfeed bytes => simp [Pseudo.expand, Instr.wf]
  | fload bytes => simp [Pseudo.expand, Instr.wf]
  | loopback => simp [Pseudo.expand, Instr.wf]
  | wrec s0 s1 fields =>
    have field_fits (k : Fin 12) : k.val < 256 := by omega
    simp [Pseudo.expand, Instr.wf, selFits, field_fits]

/-- Settles O59: a line's words are the words of well-formed commands, or one word that matches a row. -/
theorem theAssemblerEmitsOnlyCommands : Obligations.TheAssemblerEmitsOnlyCommands := by
  intro line words h w hw
  obtain rfl | ⟨p, rfl⟩ | ⟨o, ops, v, hv, rfl⟩ := assembleLine_cases h
  · cases hw
  · obtain ⟨i, hi, rfl⟩ := List.mem_map.mp hw
    have hwf := p.wf_expand i hi
    exact ⟨i, hwf, everyCommandDecodesFromItsWord i hwf⟩
  · obtain rfl := List.mem_singleton.mp hw
    exact ⟨o.operands w, wf_operands o w, decode_of_matches (assembleCommand_matches hv)⟩

end Sys2Proof.Machine
end

/-! ### The checksum (41_checksum_validator.md R80) -/

section
namespace Sys2Proof.Machine

/-- Truncating a sum of bytes to 8 bits is adding them with wrap-around. -/
theorem ofNat_sum_toNat (bytes : List Byte) :
    BitVec.ofNat 8 (bytes.map BitVec.toNat).sum = bytes.sum := by
  induction bytes with
  | nil => rfl
  | cons b bytes ih =>
    rw [List.map_cons, List.sum_cons, List.sum_cons, BitVec.ofNat_add, ih, BitVec.ofNat_toNat,
      BitVec.setWidth_eq]

/-- The bytes a checksum reads, by position. -/
theorem Buf.take_thirty (f : Buf) : f.toList.take 30 = List.ofFn fun k : Fin 30 => f[k.val] := by
  apply List.ext_getElem
  · simp
  · intro k _ _
    rw [List.getElem_take, Vector.getElem_toList, List.getElem_ofFn]

/-- The checksum is the wrapping sum of bytes 0 to 29. -/
theorem csum_eq_sum (f : Buf) : csum f = ∑ k : Fin 30, f[k.val] := by
  rw [csum, ofNat_sum_toNat, Buf.take_thirty, List.sum_ofFn]

/-- The checksum's value is the sum of the bytes' values modulo 256. -/
theorem csum_toNat (f : Buf) : (csum f).toNat = (∑ k : Fin 30, (f[k.val]).toNat) % 256 := by
  rw [csum, BitVec.toNat_ofNat, Buf.take_thirty, List.map_ofFn, List.sum_ofFn]
  rfl

/-- Settles O14: truncation to 8 bits commutes with addition, so both sums give the checksum. -/
theorem checksumIsTheSumOfThirtyBytesModulo256 : Obligations.ChecksumIsTheSumOfThirtyBytesModulo256 := by
  intro f
  have wrapping : csum f = (f.toList.take 30).foldl (· + ·) 0 := by
    rw [csum, ofNat_sum_toNat, List.sum_eq_foldl]
  exact ⟨csum_toNat f, wrapping⟩

/-- Changing a byte below position 30 moves the checksum by the change. -/
theorem csum_set_body (f : Buf) {k : Nat} (hk : k < 30) (v : Byte) :
    csum (f.set k v) = csum f + (v - f[k]) := by
  have moved (i : Fin 30) : (f.set k v)[i.val] = f[i.val] + if i = ⟨k, hk⟩ then v - f[k] else 0 := by
    by_cases hi : i = ⟨k, hk⟩
    · simp [hi]
    · have hne : k ≠ i.val := fun h => hi (Fin.ext h.symm)
      simp [hi, Vector.getElem_set_ne _ _ hne]
  simp only [csum_eq_sum, moved, Finset.sum_add_distrib, Finset.sum_ite_eq', Finset.mem_univ, if_true]

/-- Bytes 30 and 31 do not enter the checksum. -/
theorem csum_set_trailer (f : Buf) {k : Nat} (hk : 30 ≤ k) (hlt : k < 32) (v : Byte) :
    csum (f.set k v) = csum f :=
  csum_congr fun i hi => Vector.getElem_set_ne _ _ (by omega)

end Sys2Proof.Machine
end

/-! ### Loading the frame buffer, and reads of one byte (41_checksum_validator.md R83 to R87) -/

section
namespace Sys2Proof.Machine

/-- Settles O15: both commands write the frame buffer whole and answer OK with data 0. -/
theorem fclrAndFcopyLoadTheFrameBuffer : Obligations.FclrAndFcopyLoadTheFrameBuffer :=
  ⟨fun _ => rfl, fun _ => rfl⟩

/-- A store at a position of the buffer is a `set`. -/
theorem Buf.store_eq_set (v : Buf) {k : Nat} (b : Byte) (h : k < 32) : v.store k b = v.set k b h := by
  ext i hi
  rw [Buf.store_getElem _ _ _ _ hi, Vector.getElem_set]

/-- Settles O16: the two clauses are the two cases of appending a byte. -/
theorem fpushAppendsUntilTheBufferIsFull : Obligations.FpushAppendsUntilTheBufferIsFull := by
  intro s b
  refine ⟨fun room => ?_, fun full => ?_⟩
  · rw [exec, execFpush, State.pushFb_room s b room, Buf.store_eq_set _ _ room]
    rfl
  · rw [exec, execFpush, State.pushFb_full s b full]
    rfl

/-- In its range a read of one byte answers it zero-extended (20_memory.md R47). -/
theorem withSelect_readByte {n : Nat} (view : Fin n → State → Byte) (k : Fin n) (s : State) :
    withSelect n k.val (readRule fun k s => zextByte (view k s)) s =
      { s with rspCode := .ok, rspData := (view k s).setWidth 32 } := by
  rw [withSelect_fin]
  rfl

/-- Settles O29: each of the four commands reads one byte, of its own buffer or of STAT. -/
theorem byteReadsAreZeroExtended : Obligations.ByteReadsAreZeroExtended :=
  ⟨fun s k => congrArg _ (withSelect_readByte (fun k s => s.fb[k]) k s),
    fun s j => congrArg _ (withSelect_readByte (fun j s => s.stat[j]) j s),
    fun s k => congrArg _ (withSelect_readByte (fun k s => s.ob[k]) k s),
    fun s k => congrArg _ (withSelect_readByte (fun k s => s.sb[k]) k s)⟩

end Sys2Proof.Machine
end

/-! ### Validation and DECODE (41_checksum_validator.md R81, R82, R86) -/

section
namespace Sys2Proof.Machine

/-- A sequence of another length than 32 fails the first check. -/
theorem validate_length (f : Buf) {n : Nat} (h : n ≠ 32) : validate f n = .truncatedFrame :=
  if_pos h

/-- 32 bytes without the sync header fail the second check. -/
theorem validate_sync (f : Buf) (h : f[0] ≠ sync0 ∨ f[1] ≠ sync1) : validate f 32 = .syncMismatch := by
  rw [validate, if_neg (not_not_intro rfl), if_pos h]

/-- With the sync header and another last byte than the terminator, 32 bytes fail the third check. -/
theorem validate_terminator (f : Buf) (h0 : f[0] = sync0) (h1 : f[1] = sync1) (h : f[31] ≠ termByte) :
    validate f 32 = .terminatorMismatch := by
  rw [validate_window f h0 h1, if_pos h]

/-- With header and terminator in place, 32 bytes with another checksum byte fail the fourth check. -/
theorem validate_checksum (f : Buf) (h0 : f[0] = sync0) (h1 : f[1] = sync1) (h31 : f[31] = termByte)
    (h : f[30] ≠ csum f) : validate f 32 = .checksumMismatch := by
  rw [validate_window f h0 h1, if_neg (not_not_intro h31), if_pos h]

/-- DECODE of a valid frame loads the record and sets VALID. -/
theorem exec_decode_of_valid {s : State} (h : validate s.fb s.fbLen = .ok) : exec .decode s =
    .next (((s.setRecord (frameStat s.fb) (frameRaw s.fb)).setValid true).respond .ok 0) :=
  congrArg Host.Outcome.next (if_pos h)

/-- DECODE of anything else answers the failing check's code and clears VALID. -/
theorem exec_decode_of_invalid {s : State} {c : ResultCode} (h : validate s.fb s.fbLen = c)
    (hc : c ≠ .ok) : exec .decode s = .next ((s.setValid false).respond c 0) := by
  subst h
  rw [exec, execDecode, if_neg hc, State.raise_eq]

/-- Settles O18: the hypotheses are the four checks, and the record is the frame's, field by field. -/
theorem decodeLoadsAValidFrame : Obligations.DecodeLoadsAValidFrame := by
  intro s hlen h0 h1 h31 h30
  have hsum : s.fb[30] = csum s.fb := BitVec.eq_of_toNat_eq (h30.trans (csum_toNat s.fb).symm)
  have valid : validate s.fb s.fbLen = .ok := (validate_ok_iff _ _).mpr ⟨hlen, h0, h1, h31, hsum⟩
  refine ⟨_, exec_decode_of_valid valid, rfl, rfl, fun i => ?_, rfl⟩
  rw [State.respond_raw, State.setValid_raw, State.setRecord_raw, Fin.getElem_fin,
    frameRaw_getElem, beHalf_toNat]

/-- Settles O19: each clause passes the checks before its own and fails that one. -/
theorem decodeReportsTheFirstFailingCheck : Obligations.DecodeReportsTheFirstFailingCheck := by
  intro s sum fails
  refine ⟨fun hlen => ?_, fun hlen hsync => ?_, fun hlen h0 h1 h31 => ?_,
    fun hlen h0 h1 h31 h30 => ?_⟩
  · exact exec_decode_of_invalid (validate_length _ hlen) (by decide)
  · exact exec_decode_of_invalid (hlen ▸ validate_sync _ hsync) (by decide)
  · exact exec_decode_of_invalid (hlen ▸ validate_terminator _ h0 h1 h31) (by decide)
  · have hsum : s.fb[30] ≠ csum s.fb := fun h => h30 (by rw [h, csum_toNat])
    exact exec_decode_of_invalid (hlen ▸ validate_checksum _ h0 h1 h31 hsum) (by decide)

/-- Settles O53: DECODE keeps FB and FB_LEN, so the second one validates the same bytes and writes what the
first one wrote. -/
theorem decodeIsIdempotent : Obligations.DecodeIsIdempotent := by
  intro s t hexec
  by_cases h : validate s.fb s.fbLen = .ok
  · obtain rfl := Host.Outcome.next.inj ((exec_decode_of_valid h).symm.trans hexec)
    exact exec_decode_of_valid h
  · obtain rfl := Host.Outcome.next.inj ((exec_decode_of_invalid rfl h).symm.trans hexec)
    conv_rhs => rw [← State.respond_twice]
    exact exec_decode_of_invalid rfl h

end Sys2Proof.Machine
end

/-! ### What the checks detect (41_checksum_validator.md R88) -/

section
namespace Sys2Proof.Machine

/-- Settles O20: bytes 0, 1 and 31 are compared with constants, byte 30 with the checksum, and a change of
any other byte moves the checksum by as much. -/
theorem everySingleByteChangeIsDetected : Obligations.EverySingleByteChangeIsDetected := by
  intro f ⟨k, hk⟩ v hvalid (hv : v ≠ f[k])
  obtain ⟨-, h0, h1, h31, h30⟩ := (validate_ok_iff _ _).mp hvalid
  have other {i : Nat} (hi : i < 32) (hne : k ≠ i) : (f.set k v)[i] = f[i] :=
    Vector.getElem_set_ne _ _ hne
  by_cases hsync : k ≤ 1
  · rw [if_pos hsync]
    apply validate_sync
    obtain rfl | rfl : k = 0 ∨ k = 1 := by omega
    · exact .inl (by simpa [← h0] using hv)
    · exact .inr (by simpa [← h1] using hv)
  have h0' : (f.set k v)[0] = sync0 := (other (by omega) (by omega)).trans h0
  have h1' : (f.set k v)[1] = sync1 := (other (by omega) (by omega)).trans h1
  rw [if_neg hsync]
  by_cases hterm : k = 31
  · subst hterm
    rw [if_pos rfl]
    exact validate_terminator _ h0' h1' (by simpa [← h31] using hv)
  have h31' : (f.set k v)[31] = termByte := (other (by omega) hterm).trans h31
  rw [if_neg hterm]
  apply validate_checksum _ h0' h1' h31'
  by_cases hsum : k = 30
  · subst hsum
    rw [csum_set_trailer f le_rfl, ← h30]
    simpa using hv
  · rw [csum_set_body f (by omega), other (by omega) hsum, h30]
    exact fun same => hv (sub_eq_zero.mp (left_eq_add.mp same))

/-- Changes of payload bytes that keep the checksum keep a frame valid. -/
theorem validate_of_same_frame {f g : Buf} (hvalid : validate f 32 = .ok) (h0 : g[0] = f[0])
    (h1 : g[1] = f[1]) (h30 : g[30] = f[30]) (h31 : g[31] = f[31]) (hsum : csum g = csum f) :
    validate g 32 = .ok := by
  rw [validate_ok_iff] at hvalid ⊢
  rwa [h0, h1, h30, h31, hsum]

/-- Two changes of payload bytes that cancel keep a frame valid. -/
theorem validate_cancelling {f : Buf} {j k : Nat} (hvalid : validate f 32 = .ok)
    (hj : 2 ≤ j) (hj' : j < 30) (hk : 2 ≤ k) (hk' : k < 30) (hne : j ≠ k) {v w : Byte}
    (hcancel : v + w = f[j] + f[k]) : validate ((f.set j v).set k w) 32 = .ok := by
  have kept {i : Nat} (hi : i < 32) (hout : i < 2 ∨ 30 ≤ i) : ((f.set j v).set k w)[i] = f[i] := by
    rw [Vector.getElem_set_ne _ _ (by omega), Vector.getElem_set_ne _ _ (by omega)]
  apply validate_of_same_frame hvalid (kept _ (by simp)) (kept _ (by simp)) (kept _ (by simp))
    (kept _ (by simp))
  rw [csum_set_body _ hk', csum_set_body _ hj', Vector.getElem_set_ne _ _ hne]
  linear_combination hcancel

/-- Settles O21: the two changes, and the two of a swap, have the same sum as the bytes they replace. -/
theorem compensatingChangesAreNotDetected : Obligations.CompensatingChangesAreNotDetected := by
  intro f ⟨j, hj32⟩ ⟨k, hk32⟩ hvalid (hj : 2 ≤ j) (hj' : j ≤ 29) (hk : 2 ≤ k) (hk' : k ≤ 29) hne
  have undetected {v w : Byte} (hcancel : v + w = f[j] + f[k]) :
      validate ((f.set j v).set k w) 32 = .ok :=
    validate_cancelling hvalid hj (by omega) hk (by omega) (fun h => hne (Fin.ext h)) hcancel
  exact ⟨fun d => undetected (add_add_sub_cancel _ _ _), undetected (add_comm _ _)⟩

end Sys2Proof.Machine
end

/-! ### The field table, row by row (42_extractor_scaler.md R100, R101) -/

section
namespace Sys2Proof.Machine

/-- The multipliers N of the field table (R100). -/
theorem fieldMult_eq : ∀ i : Fin 12, (fieldMult i : Int) =
    if i.val = 0 then 180 else if i.val ≤ 2 then 90 else if 6 ≤ i.val ∧ i.val ≤ 8 then 2 else 1 := by
  decide

theorem fieldMult_pos : ∀ i : Fin 12, 0 < fieldMult i := by decide

theorem fieldDenom_pos : ∀ i : Fin 12, 0 < fieldDenom i := by decide

/-- The unsigned fields are HEADING and HRATE (R100). -/
theorem fieldUnsigned_iff : ∀ i : Fin 12, fieldUnsigned i = true ↔ i.val = 0 ∨ i.val = 3 := by decide

theorem rawLo_eq (i : Fin 12) : rawLo i = if i.val = 0 ∨ i.val = 3 then 0 else -32768 := by
  simp only [rawLo, fieldUnsigned_iff]

theorem rawHi_eq (i : Fin 12) : rawHi i = if i.val = 0 ∨ i.val = 3 then 65535 else 32767 := by
  simp only [rawHi, fieldUnsigned_iff]

theorem ext_eq (i : Fin 12) (h : Half) :
    ext i h = if i.val = 0 ∨ i.val = 3 then (h.toNat : Int) else h.toInt := by
  simp only [ext, fieldUnsigned_iff]

/-- Both bounds of a raw range take a tie just outside it: the lower is even, the upper odd. -/
theorem rawLo_even : ∀ i : Fin 12, rawLo i % 2 = 0 := by decide

theorem rawHi_odd : ∀ i : Fin 12, rawHi i % 2 = 1 := by decide

/-- A pattern's integer value lies in its field's raw range (R101). -/
theorem ext_range (i : Fin 12) (h : Half) : rawLo i ≤ ext i h ∧ ext i h ≤ rawHi i := by
  have hn := h.isLt
  have hi := h.toInt_lt
  have lo := h.le_toInt
  rw [rawLo_eq, rawHi_eq, ext_eq]
  split <;> omega

/-- Truncating a pattern's value gives the pattern back. -/
@[simp] theorem trunc16_ext (i : Fin 12) (h : Half) : trunc16 (ext i h) = h := by
  rw [ext]
  split
  · rw [trunc16, BitVec.ofInt_natCast, BitVec.ofNat_toNat, BitVec.setWidth_eq]
  · exact BitVec.ofInt_toInt

/-- A value in a field's raw range is the value of its truncation. -/
theorem ext_trunc16 {i : Fin 12} {x : Int} (lo : rawLo i ≤ x) (hi : x ≤ rawHi i) :
    ext i (trunc16 x) = x := by
  rw [rawLo_eq] at lo
  rw [rawHi_eq] at hi
  rw [ext_eq, trunc16]
  split
  next hu =>
    rw [if_pos hu] at lo hi
    rw [BitVec.toNat_ofInt]
    omega
  next hu =>
    rw [if_neg hu] at lo hi
    exact BitVec.toInt_ofInt_eq_self (by decide) (by omega) (by omega)

end Sys2Proof.Machine
end

/-! ### Rounding division (42_extractor_scaler.md R105) -/

section
namespace Sys2Proof.Machine

/-- `x` is an integer nearest to `p / n`, and on a tie the even one: R105's rounding without the floor. -/
def NearestEven (p n x : Int) : Prop :=
  2 * |x * n - p| < n ∨ (2 * |x * n - p| = n ∧ x % 2 = 0)

/-- The rounding division answers a nearest integer, on a tie the even one. -/
theorem rneDiv_nearestEven (p : Int) {n : Nat} (hn : 0 < n) : NearestEven p n (rneDiv p n) := by
  have hn' : (0 : Int) < n := by omega
  have below : p / n * n ≤ p := Int.ediv_mul_le p hn'.ne'
  have above : p < (p / n + 1) * n := Int.lt_ediv_add_one_mul_self p hn'
  simp only [NearestEven, rneDiv]
  generalize p / n = f at *
  have dist : |f * n - p| = p - f * n := by rw [abs_of_nonpos (by omega), neg_sub]
  have dist_next : |(f + 1) * n - p| = f * n + n - p := by
    rw [abs_of_nonneg (by omega), add_one_mul]
  split_ifs
  · rw [dist]; omega
  · rw [dist_next]; omega
  · rw [dist]; omega
  · rw [dist_next]; omega

/-- A quotient that is an integer is returned unchanged (R107 (a)). -/
theorem rneDiv_mul_self (x : Int) {n : Nat} (hn : 0 < n) : rneDiv (x * n) n = x := by
  rw [rneDiv, Int.mul_ediv_cancel _ (by omega)]
  exact if_pos (by omega)

variable {p n x : Int}

/-- Twice the distance is at most `n`, and less where `x` is odd. -/
theorem NearestEven.bounds (h : NearestEven p n x) : (2 * x - 1) * n ≤ 2 * p ∧ 2 * p ≤ (2 * x + 1) * n ∧
    (x % 2 = 1 → (2 * x - 1) * n < 2 * p ∧ 2 * p < (2 * x + 1) * n) := by
  have low : (2 * x - 1) * n = 2 * (x * n) - n := by ring
  have high : (2 * x + 1) * n = 2 * (x * n) + n := by ring
  have := le_abs_self (x * n - p)
  have := neg_abs_le (x * n - p)
  rw [low, high]
  rcases h with h | ⟨h, heven⟩ <;> omega

/-- An even lower bound is kept by everything from half a step below it, the tie included (R106). -/
theorem NearestEven.even_le_iff {a : Int} (h : NearestEven p n x) (hn : 0 < n) (heven : a % 2 = 0) :
    a ≤ x ↔ (2 * a - 1) * n ≤ 2 * p := by
  obtain ⟨low, high, odd⟩ := h.bounds
  constructor
  · intro hax
    exact (Int.mul_le_mul_of_nonneg_right (by omega) hn.le).trans low
  · intro hap
    by_contra hxa
    have hstep : (2 * x + 1) * n ≤ (2 * a - 1) * n := Int.mul_le_mul_of_nonneg_right (by omega) hn.le
    have hx : x = a - 1 := by
      have := le_of_mul_le_mul_right (hap.trans high) hn
      omega
    have := (odd (by omega)).2
    omega

/-- An odd upper bound is kept by everything less than half a step above it, the tie excluded (R106). -/
theorem NearestEven.le_odd_iff {b : Int} (h : NearestEven p n x) (hn : 0 < n) (hodd : b % 2 = 1) :
    x ≤ b ↔ 2 * p < (2 * b + 1) * n := by
  obtain ⟨low, high, odd⟩ := h.bounds
  constructor
  · intro hxb
    rcases eq_or_lt_of_le hxb with rfl | hlt
    · exact (odd hodd).2
    · exact high.trans_lt (Int.mul_lt_mul_of_pos_right (by omega) hn)
  · intro hpb
    have := lt_of_mul_lt_mul_right (low.trans_lt hpb) hn.le
    omega

/-- Settles O24: the floors agree, and the fraction is the remainder over `n`. -/
theorem roundingDivisionIsRoundHalfToEven : Obligations.RoundingDivisionIsRoundHalfToEven := by
  intro p n hn q f r
  have hf : f = p / n := Rat.floor_intCast_div_natCast p n
  have hn' : (0 : ℚ) < n := by positivity
  have hr : r = ((p - f * n : Int) : ℚ) / n := by
    push_cast
    rw [sub_div, mul_div_cancel_right₀ _ hn'.ne']
  have below : r < 1 / 2 ↔ 2 * (p - f * n) < n := by
    rw [hr, div_lt_div_iff₀ hn' two_pos, one_mul, mul_comm]
    norm_cast
  have above : r > 1 / 2 ↔ 2 * (p - f * n) > n := by
    rw [hr, gt_iff_lt, div_lt_div_iff₀ two_pos hn', one_mul, mul_comm]
    norm_cast
  simp only [rneDiv, ← hf, below, above, Int.even_iff]

end Sys2Proof.Machine
end

/-! ### Scaling and unscaling (42_extractor_scaler.md R104, R106, R107) -/

section
namespace Sys2Proof.Machine

variable {i : Fin 12} {p : Int} {h : Half}

theorem rneDiv_fieldMult_nearestEven (i : Fin 12) (p : Int) :
    NearestEven p (fieldMult i) (rneDiv p (fieldMult i)) :=
  rneDiv_nearestEven p (fieldMult_pos i)

/-- A quotient that rounds into the raw range is truncated (R106). -/
theorem unscale_of_range (lo : rawLo i ≤ rneDiv p (fieldMult i)) (hi : rneDiv p (fieldMult i) ≤ rawHi i) :
    unscale i p = some (trunc16 (rneDiv p (fieldMult i))) :=
  if_neg (by omega)

/-- A quotient that rounds outside the raw range has no pattern (R106). -/
theorem unscale_of_out_of_range (out : rneDiv p (fieldMult i) < rawLo i ∨ rawHi i < rneDiv p (fieldMult i)) :
    unscale i p = none :=
  if_pos out

/-- `p` unscales to the pattern whose value is the rounded quotient. -/
theorem unscale_eq_some_iff : unscale i p = some h ↔ rneDiv p (fieldMult i) = ext i h := by
  by_cases hr : rawLo i ≤ rneDiv p (fieldMult i) ∧ rneDiv p (fieldMult i) ≤ rawHi i
  · obtain ⟨lo, hi⟩ := hr
    rw [unscale_of_range lo hi, Option.some_inj]
    constructor
    · rintro rfl
      exact (ext_trunc16 lo hi).symm
    · intro he
      rw [he, trunc16_ext]
  · have out : unscale i p = none := unscale_of_out_of_range (by omega)
    rw [out]
    refine ⟨nofun, fun he => absurd (ext_range i h) ?_⟩
    rwa [← he]

/-- The values that unscale: from half a step below the raw range, the tie included, to less than half a
step above it (R106). -/
theorem unscale_isSome_iff : (unscale i p).isSome = true ↔
    (2 * rawLo i - 1) * fieldMult i ≤ 2 * p ∧ 2 * p < (2 * rawHi i + 1) * fieldMult i := by
  have near := rneDiv_fieldMult_nearestEven i p
  have hn : (0 : Int) < fieldMult i := by exact_mod_cast fieldMult_pos i
  rw [← near.even_le_iff hn (rawLo_even i), ← near.le_odd_iff hn (rawHi_odd i)]
  constructor
  · intro hs
    obtain ⟨h, hh⟩ := Option.isSome_iff_exists.mp hs
    rw [unscale_eq_some_iff.mp hh]
    exact ext_range i h
  · rintro ⟨lo, hi⟩
    rw [unscale_of_range lo hi]
    rfl

/-- Settles O25: the bounds of `unscale_isSome_iff`, row by row of the field table. -/
theorem unscaleAcceptsTheTabledRange : Obligations.UnscaleAcceptsTheTabledRange := by
  intro i p
  rw [unscale_isSome_iff, rawLo_eq, rawHi_eq, fieldMult_eq]
  split_ifs <;> omega

/-- Settles O26: the product of a raw value divides back exactly, and a rounded quotient is within half a
divisor. -/
theorem scalingRoundTripsWithinHalfAStep : Obligations.ScalingRoundTripsWithinHalfAStep := by
  refine ⟨fun i h => ?_, fun i p h hu => ?_⟩
  · exact unscale_eq_some_iff.mpr (rneDiv_mul_self _ (fieldMult_pos i))
  · have near : 2 * |scale i h - p| ≤ fieldMult i := by
      rw [scale, ← unscale_eq_some_iff.mp hu]
      rcases rneDiv_fieldMult_nearestEven i p with hlt | ⟨heq, -⟩
      · exact hlt.le
      · exact heq.le
    refine ⟨near, ?_⟩
    have hd : (0 : ℚ) < fieldDenom i := by exact_mod_cast fieldDenom_pos i
    have near' : 2 * |(scale i h : ℚ) - p| ≤ fieldMult i := by exact_mod_cast near
    rw [← sub_div, abs_div, abs_of_pos hd, div_right_comm]
    gcongr
    linarith

/-- A scaled value lies between the scaled bounds of its field's raw range (R104). -/
theorem scale_range (i : Fin 12) (h : Half) :
    rawLo i * fieldMult i ≤ scale i h ∧ scale i h ≤ rawHi i * fieldMult i := by
  obtain ⟨lo, hi⟩ := ext_range i h
  exact ⟨Int.mul_le_mul_of_nonneg_right lo (by omega), Int.mul_le_mul_of_nonneg_right hi (by omega)⟩

/-- R104's table of the ranges of `scale`. -/
theorem scale_tabled_range (i : Fin 12) (h : Half) :
    if i.val = 0 then 0 ≤ scale i h ∧ scale i h ≤ 11796300
    else if i.val ≤ 2 then -2949120 ≤ scale i h ∧ scale i h ≤ 2949030
    else if i.val = 3 then 0 ≤ scale i h ∧ scale i h ≤ 65535
    else if i.val ≤ 5 then -32768 ≤ scale i h ∧ scale i h ≤ 32767
    else if i.val ≤ 8 then -65536 ≤ scale i h ∧ scale i h ≤ 65534
    else -32768 ≤ scale i h ∧ scale i h ≤ 32767 := by
  have range := scale_range i h
  rw [rawLo_eq, rawHi_eq, fieldMult_eq] at range
  split_ifs at range ⊢ <;> omega

/-- A scaled value fits the 32 bits of RSP_DATA (R104). -/
theorem scale_fits (i : Fin 12) (h : Half) : scaledFits (scale i h) = true := by
  have range := scale_tabled_range i h
  apply decide_eq_true
  split_ifs at range <;> omega

end Sys2Proof.Machine
end

/-! ### The record commands (42_extractor_scaler.md R110 to R114) -/

section
namespace Sys2Proof.Machine

/-- Settles O22: in its range the selector runs the command's own rule, which writes its register and
VALID. -/
theorem wstatAndWrawWriteOneRegister : Obligations.WstatAndWrawWriteOneRegister := by
  refine ⟨fun s j b => ?_, fun s i h => ?_⟩
  · rw [exec, execWstat, withSelect_fin]
    rfl
  · rw [exec, execWraw, withSelect_fin]
    rfl

variable {s : State} {i : Fin 12} {p : Int}

/-- WSCALED of a value that unscales writes the pattern as WRAW does, and answers it (R112). -/
theorem exec_wscaled_of_some {u : Half} (fits : unscale i p = some u) : exec (.wscaled i.val p) s =
    .next { s with raw := s.raw.set i u, valid := false, rspCode := .ok, rspData := zextHalf u } := by
  rw [exec, execWscaled, withSelect_fin, State.writeScaled, fits]
  rfl

/-- WSCALED of a value that does not unscale raises FieldOutOfRange (R112). -/
theorem exec_wscaled_of_none (misfits : unscale i p = none) :
    exec (.wscaled i.val p) s = .next (s.respond .fieldOutOfRange 0) := by
  rw [exec, execWscaled, withSelect_fin, State.writeScaled, misfits]
  exact congrArg _ (State.raise_eq s _)

/-- A truncated value, zero-extended, is the value modulo 65536. -/
theorem zextHalf_trunc16 (x : Int) : zextHalf (trunc16 x) = BitVec.ofInt 32 (x % 65536) := by
  apply BitVec.eq_of_toNat_eq
  rw [zextHalf, trunc16, BitVec.toNat_setWidth, BitVec.toNat_ofInt, BitVec.toNat_ofInt]
  omega

/-- Settles O23: the raw value is the rounding division's, and it is written exactly when it is in the raw
range. -/
theorem wscaledStoresTheNearestRawValue : Obligations.WscaledStoresTheNearestRawValue := by
  intro s i p n lo hi
  have hn : (fieldMult i : Int) = n := fieldMult_eq i
  have hlo : rawLo i = lo := rawLo_eq i
  have hhi : rawHi i = hi := rawHi_eq i
  refine ⟨rneDiv p (fieldMult i), ?_, fun above below => ?_, fun out => ?_⟩
  · rw [← hn]
    exact rneDiv_fieldMult_nearestEven i p
  · rw [← zextHalf_trunc16]
    exact exec_wscaled_of_some (unscale_of_range (hlo ▸ above) (hhi ▸ below))
  · rw [← hlo, ← hhi] at out
    exact exec_wscaled_of_none (unscale_of_out_of_range out)

/-- RDRAW at a field answers the field's value (R113). -/
theorem exec_rdraw (s : State) (i : Fin 12) : exec (.rdraw i.val) s =
    .next { s with rspCode := .ok, rspData := trunc32 (ext i s.raw[i]) } := by
  rw [exec, execRdraw, withSelect_fin, State.finish_ok, State.respond_ok]

/-- RDSCALED at a field answers the field's scaled value (R114). -/
theorem exec_rdscaled (s : State) (i : Fin 12) : exec (.rdscaled i.val) s =
    .next { s with rspCode := .ok, rspData := trunc32 (scale i s.raw[i]) } := by
  rw [exec, execRdscaled, withSelect_fin, State.finish_ok, State.respond_ok]

/-- A field's value in 32 bits is its pattern, extended by the field's signedness (R113). -/
theorem trunc32_ext (i : Fin 12) (h : Half) :
    trunc32 (ext i h) = if i.val = 0 ∨ i.val = 3 then h.setWidth 32 else h.signExtend 32 := by
  rw [ext_eq]
  split
  · rw [trunc32, BitVec.ofInt_natCast, BitVec.ofNat_toNat]
  · rfl

/-- Settles O28: RDRAW answers the value of the pattern, which is its extension. -/
theorem rdrawExtendsBySignedness : Obligations.RdrawExtendsBySignedness := by
  intro s i
  rw [exec_rdraw, trunc32_ext]

/-- Settles O27: the product fits 32 bits, so RSP_DATA read as a signed number is the product itself. -/
theorem rdscaledAnswersTheExactProduct : Obligations.RdscaledAnswersTheExactProduct := by
  intro s i n x
  have exact_product : (trunc32 (scale i s.raw[i])).toInt = scale i s.raw[i] :=
    toInt_ofInt_of_scaledFits (scale_fits i s.raw[i])
  refine ⟨_, exec_rdscaled s i, ?_, ?_⟩
  · rw [exact_product, scale, ext_eq, fieldMult_eq]
  · rw [exact_product]
    exact scale_tabled_range i s.raw[i]

/-! ### The image of a decoded frame (42_extractor_scaler.md R103) -/

/-- A DECODE that answers OK has loaded the record from a valid frame (41_checksum_validator.md R86). -/
theorem record_of_decode {s t : State} (hexec : exec .decode s = .next t) (hok : t.rspCode = .ok) :
    t.stat = frameStat s.fb ∧ t.raw = frameRaw s.fb := by
  by_cases h : validate s.fb s.fbLen = .ok
  · obtain rfl := Host.Outcome.next.inj ((exec_decode_of_valid h).symm.trans hexec)
    exact ⟨rfl, rfl⟩
  · obtain rfl := Host.Outcome.next.inj ((exec_decode_of_invalid rfl h).symm.trans hexec)
    exact absurd hok h

/-- Settles O31: the record is the frame's, and the image holds each big-endian field low byte first. -/
theorem imageSwapsTheBytesOfEachDecodedField : Obligations.ImageSwapsTheBytesOfEachDecodedField := by
  intro s t hexec hok reads
  obtain ⟨hstat, hraw⟩ := record_of_decode hexec hok
  have read (k : Fin 26) (b : Byte) (h : imgByte (frameStat s.fb) (frameRaw s.fb) k = b) :
      reads k.val b := by
    rw [← h, ← hstat, ← hraw]
    exact (exec_rdimg t k).trans (by rw [BitVec.ofNat_toNat])
  refine ⟨read 0 _ rfl, read 1 _ rfl, fun i => ⟨?_, ?_⟩⟩
  · refine read ⟨2 + 2 * i.val, by omega⟩ _ ?_
    rw [imgByte_even, Fin.getElem_fin, frameRaw_getElem, lowByte_beHalf]
  · refine read ⟨3 + 2 * i.val, by omega⟩ _ ?_
    rw [imgByte_odd, Fin.getElem_fin, frameRaw_getElem, highByte_beHalf]

end Sys2Proof.Machine
end

/-! ### ENCODE and the round trip through the decoder (43_encoder.md R130, R131, R133) -/

section
namespace Sys2Proof.Machine

/-- From offset 6 on the frame holds the fields, each with its high byte at the even offset. -/
theorem frame_field (stat : Vector Byte 2) (raw : Vector Half 12) {k : Nat} (hk : 6 ≤ k) (hk' : k < 30) :
    (frame stat raw)[k] =
      if k % 2 = 0 then highByte raw[(k - 6) / 2] else lowByte raw[(k - 6) / 2] := by
  have past (n : Nat) (hn : n < 6) : k ≠ n := by omega
  rw [frame_body stat raw k hk', bodyByte, if_neg (past 0 (by simp)), if_neg (past 1 (by simp)),
    if_neg (past 2 (by simp)), if_neg (past 3 (by simp)), if_neg (past 4 (by simp)),
    if_neg (past 5 (by simp)), dif_pos hk']

/-- The frame holds a field's high byte at the lower offset (20_memory.md R43). -/
theorem frame_high (stat : Vector Byte 2) (raw : Vector Half 12) (i : Nat) (h : i < 12) :
    (frame stat raw)[6 + 2 * i] = highByte raw[i] := by
  rw [frame_field stat raw (by omega) (by omega), if_pos (by omega)]
  simp

/-- The frame holds a field's low byte at the higher offset (R43). -/
theorem frame_low (stat : Vector Byte 2) (raw : Vector Half 12) (i : Nat) (h : i < 12) :
    (frame stat raw)[7 + 2 * i] = lowByte raw[i] := by
  rw [frame_field stat raw (by omega) (by omega), if_neg (by omega)]
  simp [show (7 + 2 * i - 6) / 2 = i by omega]

/-- Extraction reads back the status bytes of the frame's record. -/
@[simp] theorem frameStat_frame (stat : Vector Byte 2) (raw : Vector Half 12) :
    frameStat (frame stat raw) = stat := by
  ext1 j hj
  obtain rfl | rfl : j = 0 ∨ j = 1 := by omega
  · rw [frameStat_zero, frame_body stat raw 4 (by omega)]
    rfl
  · rw [frameStat_one, frame_body stat raw 5 (by omega)]
    rfl

/-- Extraction reads back the fields of the frame's record, since a field is made of its two bytes. -/
@[simp] theorem frameRaw_frame (stat : Vector Byte 2) (raw : Vector Half 12) :
    frameRaw (frame stat raw) = raw := by
  ext1 i hi
  rw [frameRaw_getElem _ i hi, frame_high _ _ i hi, frame_low _ _ i hi, beHalf_high_low]

/-- ENCODE writes the record's frame to OB and answers its checksum byte (R131). -/
theorem exec_encode (s : State) : exec .encode s = .next { s with
    ob := frame s.stat s.raw, rspCode := .ok, rspData := (frame s.stat s.raw)[30].setWidth 32 } := by
  rw [exec, execEncode, State.finish_ok, State.respond_ok, State.setOb, zextByte]

/-- DECODE of the record's own frame keeps the record and sets VALID. -/
theorem exec_decode_of_own_frame {s : State} (hfb : s.fb = frame s.stat s.raw) (hlen : s.fbLen = 32) :
    exec .decode s = .next { s with valid := true, rspCode := .ok, rspData := 0 } := by
  have valid : validate s.fb s.fbLen = .ok := by rw [hfb, hlen, validate_frame]
  have hstat : frameStat s.fb = s.stat := by rw [hfb, frameStat_frame]
  have hraw : frameRaw s.fb = s.raw := by rw [hfb, frameRaw_frame]
  rw [exec_decode_of_valid valid, hstat, hraw]
  rfl

/-- LOOPBACK leaves the record's frame in OB and FB, and VALID set. -/
theorem runCommands_loopback (s : State) : runCommands Pseudo.loopback.expand s = .next { s with
    ob := frame s.stat s.raw, fb := frame s.stat s.raw, fbLen := 32, valid := true,
    rspCode := .ok, rspData := 0 } := by
  obtain ⟨-, exec_fcopy⟩ := fclrAndFcopyLoadTheFrameBuffer
  simp only [Pseudo.expand, runCommands, exec_encode, exec_fcopy]
  rw [exec_decode_of_own_frame]
  · rfl
  · rfl

/-- Settles O33: the frame of the record is valid, and extraction inverts its construction. -/
theorem encodedFramesValidateAndRoundTrip : Obligations.EncodedFramesValidateAndRoundTrip :=
  ⟨validate_frame, fun s => ⟨_, runCommands_loopback s, rfl, rfl, rfl, rfl, rfl, rfl, rfl, rfl⟩⟩

/-- Settles O32: ENCODE's effect writes the frame to OB, whose bytes are the body, the checksum of the
frame's own first thirty bytes and the terminator. -/
theorem encodeBuildsTheWireFrame : Obligations.EncodeBuildsTheWireFrame := by
  intro s
  refine ⟨_, exec_encode s, ?_⟩
  have body (k : Nat) (h : k < 30) := frame_body s.stat s.raw k h
  refine ⟨body 0 (by omega), body 1 (by omega), body 2 (by omega), body 3 (by omega),
    body 4 (by omega), body 5 (by omega), fun i => ⟨?_, ?_⟩, ?_, frame_term s.stat s.raw, rfl⟩
  · exact (congrArg BitVec.toNat (frame_high s.stat s.raw i i.isLt)).trans (highByte_toNat _)
  · exact (congrArg BitVec.toNat (frame_low s.stat s.raw i i.isLt)).trans (lowByte_toNat _)
  · exact (congrArg BitVec.toNat (frame_csum s.stat s.raw)).trans (csum_toNat _)

end Sys2Proof.Machine
end

/-! ### What the synchronizer and the decoder share (44_synchronizer.md R152) -/

section
namespace Sys2Proof.Machine

/-- FB, FB_LEN and OB written whole: the buffers that are the decoder's and the encoder's own. -/
def State.setDecoderBuffers (fb : Buf) (n : Nat) (ob : Buf) (s : State) : State :=
  { s with fb := fb, fbLen := n, ob := ob }

/-- The passes of `settle()` do not see these buffers. -/
theorem settle_setDecoderBuffers (fb : Buf) (n : Nat) (ob : Buf) (s : State) :
    (s.setDecoderBuffers fb n ob).settle =
      { s.settle with state := s.settle.state.setDecoderBuffers fb n ob } :=
  settleLoop_comm (g := State.setDecoderBuffers fb n ob) (fun _ => rfl) (fun _ => rfl) (fun _ => rfl)
    (fun _ => rfl) (fun _ => rfl) (fun _ _ => rfl) (fun _ _ _ => rfl) 33 s .ok 0

/-- Each of the synchronizer's commands is a function of the state, and that function commutes with writing
the decoder's buffers. -/
theorem exec_setDecoderBuffers {i : Instr}
    (hi : (∃ b, i = .spush b) ∨ i = .seof ∨ i = .srestart ∨ ∃ sel, i = .rdsb sel) :
    ∃ f : State → State, (∀ s, exec i s = .next (f s)) ∧
      ∀ fb n ob s, f (s.setDecoderBuffers fb n ob) = (f s).setDecoderBuffers fb n ob := by
  obtain ⟨b, rfl⟩ | rfl | rfl | ⟨sel, rfl⟩ := hi
  · refine ⟨_, fun _ => rfl, fun fb n ob s => ?_⟩
    have hreceived :
        (s.setDecoderBuffers fb n ob).received b = (s.received b).setDecoderBuffers fb n ob := rfl
    rw [show (s.setDecoderBuffers fb n ob).eof = s.eof from rfl, State.pushStreamByte_eq,
      State.pushStreamByte_eq, hreceived, settle_setDecoderBuffers]
    cases s.eof with
    | false => rfl
    | true => rfl
  · refine ⟨_, fun _ => rfl, fun fb n ob s => ?_⟩
    rw [show (s.setDecoderBuffers fb n ob).eof = s.eof from rfl]
    cases s.eof with
    | false => rfl
    | true => rfl
  · exact ⟨_, fun _ => rfl, fun _ _ _ _ => rfl⟩
  · refine ⟨_, fun _ => rfl, fun fb n ob s => ?_⟩
    rcases Nat.lt_or_ge sel 32 with h | h
    · rw [withSelect_lt h, withSelect_lt h]; rfl
    · rw [withSelect_ge h, withSelect_ge h]; rfl

/-- Settles O50: the command commutes with writing the buffers, so it neither reads them nor, as writing
back its own state's buffers shows, writes them. -/
theorem theSynchronizerIgnoresTheDecodersBuffers : Obligations.TheSynchronizerIgnoresTheDecodersBuffers := by
  intro i s t fb ob n hi hexec
  obtain ⟨f, hf, hcomm⟩ := exec_setDecoderBuffers hi
  obtain rfl : f s = t := by simpa [hf] using hexec
  have own : f s = (f s).setDecoderBuffers s.fb s.fbLen s.ob := hcomm s.fb s.fbLen s.ob s
  refine ⟨(congrArg State.fb own :), (congrArg State.fbLen own :), (congrArg State.ob own :), ?_⟩
  exact (hf _).trans (congrArg _ (hcomm fb n ob s))

/-- Settles O51: the effects that write a synchronizer register are CLEAR's, SPUSH's, SEOF's and SRESTART's. -/
theorem theDecoderLeavesTheSynchronizerAlone : Obligations.TheDecoderLeavesTheSynchronizerAlone := by
  intro i s t hi hexec
  cases effect_of_exec hexec with
  | clear => simp at hi
  | spush b => simp at hi
  | seof => simp at hi
  | srestart => simp at hi
  | _ => simp

end Sys2Proof.Machine
end

/-! ### The end and the restart of a stream (44_synchronizer.md R143, R147, R148) -/

section
namespace Sys2Proof.Machine

/-- SPUSH to an open stream answers what `settle()` returns for the received byte. -/
theorem exec_spush_of_open {s : State} (opened : s.eof = false) (b : Byte) : exec (.spush b) s =
    .next ((s.received b).settle.state.respond (s.received b).settle.code (s.received b).settle.evt) := by
  rw [exec, execSpush, opened, if_neg Bool.false_ne_true, State.pushStreamByte_eq]

/-- Settles O34: StreamEnded is raised before the byte is taken. -/
theorem spushAfterTheEndIsRefused : Obligations.SpushAfterTheEndIsRefused := by
  intro s b ended
  rw [exec, execSpush, if_pos ended]
  rfl

/-- Settles O39: SEOF's rule has one case for an open stream and one for an ended one. -/
theorem seofDropsTheBufferedBytes : Obligations.SeofDropsTheBufferedBytes := by
  refine ⟨fun s opened => ?_, fun s ended => ?_⟩
  · rw [exec, execSeof, opened, if_neg Bool.false_ne_true]; rfl
  · rw [exec, execSeof, if_pos ended]; rfl

/-- Settles O40: SRESTART's rule writes these registers and the response, and no other. -/
theorem srestartResetsTheSynchronizer : Obligations.SrestartResetsTheSynchronizer := fun _ => rfl

end Sys2Proof.Machine
end

/-! ### Where a frame can start in the sync buffer (44_synchronizer.md R142) -/

section
namespace Sys2Proof.Machine

/-- Byte `k` of a buffer; 0 past its end, which is what `drop1` moves in. -/
def Buf.byteAt (v : Buf) (k : Nat) : Byte := v.toList.getD k 0

theorem Buf.byteAt_of_lt (v : Buf) {k : Nat} (h : k < 32) : v.byteAt k = v[k] := by
  simp [Buf.byteAt, h]

theorem Buf.byteAt_of_ge (v : Buf) {k : Nat} (h : 32 ≤ k) : v.byteAt k = 0#8 := by
  simp [Buf.byteAt, h]

theorem Buf.ext_byteAt {v w : Buf} (h : ∀ k, v.byteAt k = w.byteAt k) : v = w := by
  ext1 k hk
  rw [← Buf.byteAt_of_lt v hk, ← Buf.byteAt_of_lt w hk, h k]

@[simp] theorem Buf.byteAt_zero (k : Nat) : Buf.zero.byteAt k = 0#8 := by
  rcases Nat.lt_or_ge k 32 with h | h
  · rw [Buf.byteAt_of_lt _ h, Buf.zero_getElem k h]
  · exact Buf.byteAt_of_ge _ h

@[simp] theorem Buf.byteAt_shiftDown (v : Buf) (k : Nat) : v.shiftDown.byteAt k = v.byteAt (k + 1) := by
  rcases Nat.lt_or_ge (k + 1) 32 with h | h
  · rw [Buf.byteAt_of_lt _ (by omega), Buf.byteAt_of_lt _ h, Buf.shiftDown_getElem _ _ (by omega), dif_pos h]
  · rw [Buf.byteAt_of_ge _ h]
    rcases Nat.lt_or_ge k 32 with hk | hk
    · rw [Buf.byteAt_of_lt _ hk, Buf.shiftDown_getElem _ _ hk, dif_neg (by omega)]
    · exact Buf.byteAt_of_ge _ hk

@[simp] theorem Buf.byteAt_shiftDown_iterate (v : Buf) (d k : Nat) :
    (Buf.shiftDown^[d] v).byteAt k = v.byteAt (k + d) := by
  induction d generalizing v with
  | zero => rfl
  | succ d ih => rw [Function.iterate_succ_apply, ih, Buf.byteAt_shiftDown, Nat.add_assoc]

theorem Buf.byteAt_store (v : Buf) {n : Nat} (b : Byte) (h : n < 32) (k : Nat) :
    (v.store n b).byteAt k = if k = n then b else v.byteAt k := by
  rcases Nat.lt_or_ge k 32 with hk | hk
  · rw [Buf.byteAt_of_lt _ hk, Buf.byteAt_of_lt _ hk, Buf.store_getElem _ _ _ _ hk]
    simp only [eq_comm]
  · rw [Buf.byteAt_of_ge _ hk, Buf.byteAt_of_ge _ hk, if_neg (by omega)]

/-- Giving up `d` bytes. -/
theorem State.discard_iterate (d : Nat) (s : State) : State.discard^[d] s =
    { s with
      sb := Buf.shiftDown^[d] s.sb, sbLen := s.sbLen - d, disc := s.disc + BitVec.ofNat 32 d } := by
  induction d generalizing s with
  | zero => simp
  | succ d ih =>
    rw [Function.iterate_succ_apply, ih, Function.iterate_succ_apply]
    simp [State.setSb, State.addDisc, BitVec.add_assoc, Nat.sub_sub, Nat.add_comm d 1, BitVec.ofNat_add]

/-- Of `n` buffered bytes, those from `d` on start like a frame, as far as they go. -/
def CanStart (v : Buf) (n d : Nat) : Prop :=
  v.byteAt d = sync0 ∧ (d + 1 = n ∨ v.byteAt (d + 1) = sync1)

/-- `d` is the first of `n` buffered bytes that can start a frame, or `n` where none can. -/
def FirstStart (v : Buf) (n d : Nat) : Prop :=
  d ≤ n ∧ (d = n ∨ CanStart v n d) ∧ ∀ e < d, ¬ CanStart v n e

theorem canStart_shiftDown {v : Buf} {n d : Nat} : CanStart v.shiftDown n d ↔ CanStart v (n + 1) (d + 1) := by
  simp [CanStart]

theorem FirstStart.shiftDown {v : Buf} {n d : Nat} (h : FirstStart v (n + 1) (d + 1)) :
    FirstStart v.shiftDown n d := by
  obtain ⟨hle, hd, hfirst⟩ := h
  refine ⟨by omega, hd.imp (by omega) canStart_shiftDown.mpr, fun e he hc => ?_⟩
  exact hfirst (e + 1) (by omega) (canStart_shiftDown.mp hc)

theorem exists_firstStart (v : Buf) (n : Nat) : ∃ d, FirstStart v n d := by
  classical
  have hex : ∃ d, d = n ∨ CanStart v n d := ⟨n, .inl rfl⟩
  refine ⟨Nat.find hex, Nat.find_min' hex (.inl rfl), Nat.find_spec hex, fun e he hc => ?_⟩
  exact Nat.find_min hex he (.inr hc)

/-- The first byte stands exactly where neither discard of `settle()` applies. -/
theorem canStart_zero_iff (s : State) (h : 1 ≤ s.sbLen) : CanStart s.sb s.sbLen 0 ↔
    ¬ (1 ≤ s.sbLen ∧ s.sb[0] ≠ sync0) ∧ ¬ (2 ≤ s.sbLen ∧ s.sb[1] ≠ sync1) := by
  rw [CanStart, Buf.byteAt_of_lt _ (by omega), Buf.byteAt_of_lt _ (by omega)]
  by_cases h1 : s.sbLen = 1
  · simp [h1]
  · simp [h, show 2 ≤ s.sbLen by omega, show ¬ 1 = s.sbLen by omega]

/-- Below a full window the loop discards up to the first byte that can start a frame, and no further. -/
theorem settleLoop_firstStart {d : Nat} {s : State} (hd : FirstStart s.sb s.sbLen d) (hlen : s.sbLen ≤ 31)
    {n : Nat} (hn : s.sbLen < n) (c : ResultCode) (e : Word32) :
    settleLoop n s c e = ⟨State.discard^[d] s, c, e⟩ := by
  induction d generalizing s n with
  | zero =>
    obtain ⟨n, rfl⟩ := Nat.exists_eq_add_of_lt hn
    obtain ⟨-, hstart, -⟩ := hd
    rcases Nat.eq_zero_or_pos s.sbLen with h | h
    · exact settleLoop_done (by omega) (by omega) (by omega) _ c e
    · obtain ⟨h0, h1⟩ := (canStart_zero_iff s h).mp (hstart.resolve_left (by omega))
      exact settleLoop_done h0 h1 (by omega) _ c e
  | succ d ih =>
    obtain ⟨m, rfl⟩ : ∃ m, n = m + 1 := ⟨n - 1, by omega⟩
    obtain ⟨k, hk⟩ : ∃ k, s.sbLen = k + 1 := ⟨s.sbLen - 1, by have := hd.1; omega⟩
    have hrest : FirstStart s.sb.shiftDown k d := (hk ▸ hd).shiftDown
    obtain ⟨-, -, hfirst⟩ := hd
    have hnot := mt (canStart_zero_iff s (by omega)).mpr (hfirst 0 (by omega))
    have hdiscard : settleLoop (m + 1) s c e = settleLoop m s.discard c e := by
      by_cases h0 : 1 ≤ s.sbLen ∧ s.sb[0] ≠ sync0
      · exact settleLoop_discard0 h0 m c e
      · exact settleLoop_discard1 h0 (not_not.mp fun h1 => hnot ⟨h0, h1⟩) m c e
    rw [hdiscard, Function.iterate_succ_apply]
    exact ih (by simpa [hk] using hrest) (by simp; omega) (by simp; omega)

end Sys2Proof.Machine
end

/-! ### One push (44_synchronizer.md R141 to R146) -/

section
namespace Sys2Proof.Machine

variable {s : State}

/-! The sync-buffer invariant, byte by byte (10_state.md R25). -/

theorem State.SyncInv.first (h : s.SyncInv) (hlen : 1 ≤ s.sbLen) : s.sb.byteAt 0 = sync0 := by
  obtain ⟨-, hfirst, -⟩ := h
  exact (Buf.byteAt_of_lt _ (by omega)).trans (hfirst hlen)

theorem State.SyncInv.second (h : s.SyncInv) (hlen : 2 ≤ s.sbLen) : s.sb.byteAt 1 = sync1 := by
  obtain ⟨-, -, hsecond, -⟩ := h
  exact (Buf.byteAt_of_lt _ (by omega)).trans (hsecond hlen)

theorem State.SyncInv.tail (h : s.SyncInv) {k : Nat} (hk : s.sbLen ≤ k) : s.sb.byteAt k = 0#8 := by
  obtain ⟨-, -, -, htail⟩ := h
  rcases Nat.lt_or_ge k 32 with hlt | hge
  · exact (Buf.byteAt_of_lt _ hlt).trans (htail ⟨k, hlt⟩ hk)
  · exact Buf.byteAt_of_ge _ hge

theorem State.SyncInv.byteAt_received (h : s.SyncInv) (b : Byte) (k : Nat) :
    (s.received b).sb.byteAt k = if k = s.sbLen then b else s.sb.byteAt k :=
  Buf.byteAt_store _ _ (by have := h.1; omega) k

/-- 32 bytes after the start of a window is one after its last byte. -/
theorem spos_eq_base_add (spos : Word32) : spos - 31 + 32 = spos + 1 := by bv_omega

/-- SPUSH without a window: the buffer's new contents `v`, after `d` bytes given up. -/
def State.afterKeep (v : Buf) (d : Nat) (s : State) : State :=
  { s with
    sb := v, sbLen := s.sbLen + 1 - d, spos := s.spos + 1, disc := s.disc + BitVec.ofNat 32 d,
    rspCode := .ok, rspData := 0 }

/-- SPUSH of the last byte of a frame `w` at offset `base`, `lost` bytes after the last accepted one (R144,
R145). -/
def State.afterAccept (w : Buf) (base lost : Word32) (s : State) : State :=
  { s with
    stat := frameStat w, raw := frameRaw w, valid := true,
    sb := Buf.zero, sbLen := 0, spos := base + 32, disc := 0, nfrm := s.nfrm + 1,
    nrsy := if lost = 0 then s.nrsy else s.nrsy + 1,
    ldisc := if lost = 0 then s.ldisc else lost,
    lsevt := .accepted (decide (lost ≠ 0)), lsoff := base,
    rspCode := .ok, rspData := if lost = 0 then 0x01 else 0x11 }

/-- SPUSH of the last byte of a window at offset `base` that fails validation with `r`: the buffer's new
contents `v`, after `d` bytes given up (R146). -/
def State.afterReject (v : Buf) (d : Nat) (base : Word32) (r : ResultCode) (s : State) : State :=
  { s with
    sb := v, sbLen := 32 - d, spos := s.spos + 1, disc := s.disc + BitVec.ofNat 32 d, nrej := s.nrej + 1,
    lsoff := base, lsevt := rejectEvent r, rspCode := r, rspData := (rejectEvent r).word,
    sticky := stickyAfter r s.sticky }

@[simp] theorem State.afterKeep_sb (v : Buf) (d : Nat) (s : State) : (s.afterKeep v d).sb = v := rfl
@[simp] theorem State.afterKeep_sbLen (v : Buf) (d : Nat) (s : State) :
    (s.afterKeep v d).sbLen = s.sbLen + 1 - d := rfl
@[simp] theorem State.afterAccept_sbLen (w : Buf) (base lost : Word32) (s : State) :
    (s.afterAccept w base lost).sbLen = 0 := rfl
@[simp] theorem State.afterReject_sb (v : Buf) (d : Nat) (base : Word32) (r : ResultCode) (s : State) :
    (s.afterReject v d base r).sb = v := rfl
@[simp] theorem State.afterReject_sbLen (v : Buf) (d : Nat) (base : Word32) (r : ResultCode) (s : State) :
    (s.afterReject v d base r).sbLen = 32 - d := rfl

/-- A push that does not fill the window gives up the bytes that cannot start a frame (R142). -/
theorem exec_spush_keep (hs : s.SyncInv) (opened : s.eof = false) (hlen : s.sbLen < 31) {b : Byte} {d : Nat}
    (hd : FirstStart (s.received b).sb (s.sbLen + 1) d) :
    exec (.spush b) s = .next (s.afterKeep (Buf.shiftDown^[d] (s.received b).sb) d) := by
  have hsettle : (s.received b).settle = ⟨State.discard^[d] (s.received b), .ok, 0⟩ :=
    settleLoop_firstStart hd (by simp; omega) (by simp; omega) .ok 0
  rw [exec_spush_of_open opened, hsettle, State.discard_iterate]
  rfl

/-- The byte that fills the window makes it a frame's, as far as the header goes (R141). -/
theorem State.SyncInv.window_header (hs : s.SyncInv) (hlen : s.sbLen = 31) (b : Byte) :
    (s.sb.set 31 b)[0] = sync0 ∧ (s.sb.set 31 b)[1] = sync1 := by
  obtain ⟨-, h0, h1, -⟩ := hs
  exact ⟨by simpa [sync0] using h0 (by omega), by simpa [sync1] using h1 (by omega)⟩

/-- The full buffer passes both discards of `settle()`. -/
theorem State.SyncInv.no_discard (hs : s.SyncInv) (hlen : s.sbLen = 31) (b : Byte) :
    ¬ (1 ≤ (s.received b).sbLen ∧ (s.received b).sb[0] ≠ sync0) ∧
    ¬ (2 ≤ (s.received b).sbLen ∧ (s.received b).sb[1] ≠ sync1) := by
  rw [s.received_sb_full b hlen]
  obtain ⟨h0, h1⟩ := hs.window_header hlen b
  exact ⟨fun h => h.2 h0, fun h => h.2 h1⟩

/-- The stream offset of a full window (10_state.md R26). -/
theorem State.streamBase_received (hlen : s.sbLen = 31) (b : Byte) :
    (s.received b).streamBase = s.spos - 31 := by
  rw [State.streamBase, State.received_spos, State.received_sbLen, hlen]
  bv_omega

/-- A push that completes a valid window accepts it (R145). -/
theorem exec_spush_accept (hs : s.SyncInv) (opened : s.eof = false) (hlen : s.sbLen = 31) {b : Byte}
    (hv : validate (s.sb.set 31 b) 32 = .ok) :
    exec (.spush b) s = .next (s.afterAccept (s.sb.set 31 b) (s.spos - 31) s.disc) := by
  obtain ⟨h0, h1⟩ := hs.no_discard hlen b
  have hsb := s.received_sb_full b hlen
  have hsettle := settleLoop_accept h0 h1 (by simp [hlen]) (by rwa [hsb]) 32 .ok 0
  rw [exec_spush_of_open opened, State.settle, hsettle, State.streamBase_received hlen, State.accept, hsb,
    SyncEvent.word_accepted, State.afterAccept, spos_eq_base_add]
  by_cases h : s.disc = 0#32
  · simp [isResync, h]; rfl
  · simp [isResync, h]; rfl

/-- A push that completes a bad window rejects it, and gives up its first byte and then the bytes that
cannot start a frame (R146, R142). -/
theorem exec_spush_reject (hs : s.SyncInv) (opened : s.eof = false) (hlen : s.sbLen = 31) {b : Byte}
    (hv : validate (s.sb.set 31 b) 32 ≠ .ok) {d : Nat}
    (hd : FirstStart (Buf.shiftDown (s.sb.set 31 b)) 31 d) :
    exec (.spush b) s = .next (s.afterReject (Buf.shiftDown^[d + 1] (s.sb.set 31 b)) (d + 1) (s.spos - 31)
      (validate (s.sb.set 31 b) 32)) := by
  obtain ⟨h0, h1⟩ := hs.no_discard hlen b
  have hsb := s.received_sb_full b hlen
  have hscan (base : Word32) (r : ResultCode) : FirstStart ((s.received b).reject base r).discard.sb
      ((s.received b).reject base r).discard.sbLen d := by
    simpa only [State.discard_eq, State.addDisc_sb, State.setSb_sb, State.addDisc_sbLen, State.setSb_sbLen,
      State.reject_sb, State.reject_sbLen, State.received_sbLen, hsb, hlen] using hd
  have hsettle : (s.received b).settle = _ :=
    (settleLoop_reject h0 h1 (by simp [hlen]) (by rwa [hsb]) 32 .ok 0).trans
      (settleLoop_firstStart (hscan _ _) (by simp [hlen]) (by simp [hlen]) _ _)
  rw [exec_spush_of_open opened, hsettle, ← Function.iterate_succ_apply, State.discard_iterate, hsb,
    State.streamBase_received hlen]
  simp only [State.reject_sb, State.reject_sbLen, hsb, State.received_sbLen, hlen]
  rfl

/-- A window with the header is rejected for its terminator, or else for its checksum (R141). -/
theorem State.SyncInv.window_rejected (hs : s.SyncInv) (hlen : s.sbLen = 31) {b : Byte}
    (hv : validate (s.sb.set 31 b) 32 ≠ .ok) :
    validate (s.sb.set 31 b) 32 = if b ≠ termByte then .terminatorMismatch else .checksumMismatch := by
  obtain ⟨h0, h1⟩ := hs.window_header hlen b
  rw [validate_window _ h0 h1, Vector.getElem_set_self] at hv ⊢
  by_cases hb : b = termByte
  · simp only [hb, ne_eq, not_true_eq_false, if_false, ite_not] at hv ⊢
    simpa using hv
  · simp [hb]

/-- The check on the last two bytes, as a statement about numbers (41_checksum_validator.md R80, R81). -/
theorem State.SyncInv.window_valid_iff (hs : s.SyncInv) (hlen : s.sbLen = 31) (b : Byte) :
    validate (s.sb.set 31 b) 32 = .ok ↔ b = termByte ∧
      ((s.sb.set 31 b)[30]).toNat = (∑ k : Fin 30, ((s.sb.set 31 b)[k.val]).toNat) % 256 := by
  obtain ⟨h0, h1⟩ := hs.window_header hlen b
  rw [validate_ok_iff, ← csum_toNat, BitVec.toNat_inj, Vector.getElem_set_self]
  exact ⟨fun ⟨_, _, _, h31, h30⟩ => ⟨h31, h30⟩, fun ⟨h31, h30⟩ => ⟨rfl, h0, h1, h31, h30⟩⟩

end Sys2Proof.Machine
end

/-! ### What a push does (44_synchronizer.md R141 to R146): the statements -/

section
namespace Sys2Proof.Machine

/-- Settles O35: in each case the received buffer shows the first byte that can start a frame. -/
theorem spushKeepsOnlyWhatCanStartAFrame : Obligations.SpushKeepsOnlyWhatCanStartAFrame := by
  intro s b hs opened leaves
  have hbyte := hs.byteAt_received b
  have keeps {d : Nat} {v : Buf} (hlen : s.sbLen < 31) (hd : FirstStart (s.received b).sb (s.sbLen + 1) d)
      (hv : ∀ k, (s.received b).sb.byteAt (k + d) = v.byteAt k) :
      leaves v (s.sbLen + 1 - d) (BitVec.ofNat 32 d) := by
    have hshift : Buf.shiftDown^[d] (s.received b).sb = v := Buf.ext_byteAt (by simpa using hv)
    exact hshift ▸ exec_spush_keep hs opened hlen hd
  have hstored (h : s.sbLen < 32) : (s.received b).sb = s.sb.set s.sbLen b h := Buf.store_eq_set _ _ h
  generalize (s.received b).sb = u at hbyte keeps hstored
  have keepsAll (hlen : s.sbLen < 31) (hd : CanStart u (s.sbLen + 1) 0) :
      leaves (s.sb.set s.sbLen b (by omega)) (s.sbLen + 1) 0 :=
    keeps hlen ⟨by omega, .inr hd, by simp⟩ fun k => congrArg (Buf.byteAt · k) (hstored (by omega))
  have keepsNone (hlen : s.sbLen < 31) (hd : ∀ e < s.sbLen + 1, ¬ CanStart u (s.sbLen + 1) e) :
      leaves (Vector.replicate 32 0) 0 (BitVec.ofNat 32 (s.sbLen + 1)) := by
    have hzero (k : Nat) : u.byteAt (k + (s.sbLen + 1)) = Buf.zero.byteAt k := by
      rw [hbyte, if_neg (by omega), hs.tail (by omega), Buf.byteAt_zero]
    simpa [Buf.zero] using keeps hlen ⟨le_rfl, .inl rfl, hd⟩ hzero
  refine ⟨fun hlen hb => ?_, fun hlen hb => ?_, fun hlen hb => ?_, fun hlen hb => ?_,
    fun hlen hb hb' => ?_, fun hlt hlen => ?_⟩
  · simpa [hlen] using keepsAll (by omega) (by simp [CanStart, hbyte, hlen, hb, sync0])
  · simpa [hlen] using keepsNone (by omega) (by simp [CanStart, hbyte, hlen, hb, sync0])
  · simpa [hlen] using keepsAll (by omega)
      (by simp [CanStart, hbyte, hlen, hb, sync1, hs.first (show 1 ≤ s.sbLen by omega)])
  · have hd : FirstStart u (s.sbLen + 1) 1 := by
      simp [FirstStart, CanStart, hbyte, hlen, hb, sync0, sync1]
    have hv (k : Nat) : u.byteAt (k + 1) = s.sb.byteAt k := by
      cases k with
      | zero => simp [hbyte, hlen, hb, hs.first (show 1 ≤ s.sbLen by omega), sync0]
      | succ k =>
        rw [hbyte, if_neg (by omega), hs.tail (by omega), hs.tail (by omega)]
    simpa [hlen] using keeps (by omega) hd hv
  · have hd (e : Nat) (he : e < s.sbLen + 1) : ¬ CanStart u (s.sbLen + 1) e := by
      obtain rfl | rfl : e = 0 ∨ e = 1 := by omega
      · simp [CanStart, hbyte, hlen, hb, sync1]
      · simp [CanStart, hbyte, hlen, hb', sync0]
    simpa [hlen] using keepsNone (by omega) hd
  · exact keepsAll hlt (by simp [CanStart, hbyte, hs.first (show 1 ≤ s.sbLen by omega), hs.second hlen,
      show 0 ≠ s.sbLen by omega, show 1 ≠ s.sbLen by omega])

/-- Settles O36: the two hypotheses on the window are the checks that are left where the header is in
place. -/
theorem spushAcceptsAValidWindow : Obligations.SpushAcceptsAValidWindow := by
  intro s b hs opened hlen w hb hsum
  have hv : validate w 32 = .ok := (hs.window_valid_iff hlen b).mpr ⟨hb, hsum⟩
  refine ⟨_, exec_spush_accept hs opened hlen hv, rfl, rfl, fun i => ?_, ?_⟩
  · exact (congrArg BitVec.toNat (frameRaw_getElem w i i.isLt)).trans (beHalf_toNat _ _)
  · rw [State.afterAccept, spos_eq_base_add]
    rfl

/-- Settles O37: `d` is one more than the place of the first byte that can start a frame in the window
without its first byte. -/
theorem spushRejectsABadWindow : Obligations.SpushRejectsABadWindow := by
  intro s b hs opened hlen w hbad mayStart
  have hv : validate w 32 ≠ .ok := fun h => by
    obtain ⟨hb, hsum⟩ := (hs.window_valid_iff hlen b).mp h
    exact hbad.elim (fun h => h hb) (fun h => h hsum)
  have hmay (d : Nat) : CanStart (Buf.shiftDown w) 31 d ↔ mayStart (d + 1) :=
    canStart_shiftDown.trans (and_congr Iff.rfl (or_congr (by omega) Iff.rfl))
  obtain ⟨d, hd⟩ := exists_firstStart (Buf.shiftDown w) 31
  have hexec := exec_spush_reject hs opened hlen hv hd
  obtain ⟨hle, hstart, hfirst⟩ := hd
  rw [hs.window_rejected hlen hv] at hexec
  refine ⟨_, d + 1, hexec, by omega, by omega, hstart.imp (by omega) (hmay d).mp, fun e h1 he => ?_,
    fun k => ?_, ?_⟩
  · obtain ⟨e, rfl⟩ := Nat.exists_eq_add_of_le' h1
    exact mt (hmay e).mpr (hfirst e (by omega))
  · exact (Buf.byteAt_of_lt _ k.isLt).symm.trans (Buf.byteAt_shiftDown_iterate w (d + 1) k)
  · by_cases hb : b = termByte
    · subst hb; rfl
    · have hb' : b ≠ 0xAA#8 := hb
      simp only [if_pos hb, if_pos hb']
      rfl

/-- Settles O38: of the three things a push can do, only the reject answers an error, and the header leaves
it two. -/
theorem onlyTerminatorOrChecksumRejectAWindow : Obligations.OnlyTerminatorOrChecksumRejectAWindow := by
  intro s t b hs opened hexec
  rcases Nat.lt_or_eq_of_le hs.1 with hlt | hlen
  · obtain ⟨d, hd⟩ := exists_firstStart (s.received b).sb (s.sbLen + 1)
    cases (exec_spush_keep hs opened (by omega) hd).symm.trans hexec
    exact .inl rfl
  by_cases hv : validate (s.sb.set 31 b) 32 = .ok
  · cases (exec_spush_accept hs opened hlen hv).symm.trans hexec
    exact .inl rfl
  · obtain ⟨d, hd⟩ := exists_firstStart (Buf.shiftDown (s.sb.set 31 b)) 31
    cases (exec_spush_reject hs opened hlen hv hd).symm.trans hexec
    refine .inr ?_
    simp only [hs.window_rejected hlen hv]
    split
    · exact .inl rfl
    · exact .inr rfl

end Sys2Proof.Machine
end

/-! ### The windows that `sync_ref` evaluates (44_synchronizer.md R140) -/

section
namespace Sys2Proof.Machine

variable {stream : List Byte} {c : Nat}

/-- The two sync bytes stand at position `c` of a stream. -/
def HeaderAt (stream : List Byte) (c : Nat) : Prop := stream.getD c 0 = sync0 ∧ stream.getD (c + 1) 0 = sync1

/-- The windows that `sync_ref` evaluates from position `c` on. -/
def windowsFrom (stream : List Byte) (c : Nat) : List (Nat × ResultCode) :=
  syncRefLoop (stream.length - c) stream c

/-- The reference scans from position 0 (R140). -/
theorem syncRef_eq (stream : List Byte) : syncRef stream = windowsFrom stream 0 := rfl

/-! One pass of the loop: none left, a window, or a position without the header. -/

theorem syncRefLoop_short (n : Nat) (hlen : ¬ c + 32 ≤ stream.length) : syncRefLoop n stream c = [] := by
  cases n with
  | zero => rfl
  | succ n => rw [syncRefLoop, if_neg hlen]

theorem syncRefLoop_window (n : Nat) (hlen : c + 32 ≤ stream.length) (h : HeaderAt stream c) :
    syncRefLoop (n + 1) stream c = (c, validate (windowAt stream c) 32) ::
      syncRefLoop n stream (if validate (windowAt stream c) 32 = .ok then c + 32 else c + 1) := by
  rw [syncRefLoop, if_pos hlen]
  exact if_pos h

theorem syncRefLoop_skip (n : Nat) (hlen : c + 32 ≤ stream.length) (h : ¬ HeaderAt stream c) :
    syncRefLoop (n + 1) stream c = syncRefLoop n stream (c + 1) := by
  rw [syncRefLoop, if_pos hlen]
  exact if_neg h

/-- Every window moves the position on. -/
theorem le_next_position (c : Nat) (r : ResultCode) : c + 1 ≤ if r = .ok then c + 32 else c + 1 := by
  split <;> omega

/-- A pass for every byte from its position on is fuel enough, and more changes nothing. -/
theorem syncRefLoop_eq_windowsFrom {n : Nat} (hn : stream.length ≤ n + c) :
    syncRefLoop n stream c = windowsFrom stream c := by
  rw [windowsFrom]
  generalize hm : stream.length - c = m
  replace hm : stream.length ≤ m + c := by omega
  induction n generalizing c m with
  | zero => rw [syncRefLoop_short _ (by omega), syncRefLoop_short _ (by omega)]
  | succ n ih =>
    by_cases hlen : c + 32 ≤ stream.length
    · obtain ⟨m, rfl⟩ : ∃ k, m = k + 1 := ⟨m - 1, by omega⟩
      by_cases h : HeaderAt stream c
      · have hnext := le_next_position c (validate (windowAt stream c) 32)
        rw [syncRefLoop_window _ hlen h, syncRefLoop_window _ hlen h, ih (by omega) m (by omega)]
      · rw [syncRefLoop_skip _ hlen h, syncRefLoop_skip _ hlen h, ih (by omega) m (by omega)]
    · rw [syncRefLoop_short _ hlen, syncRefLoop_short _ hlen]

/-! The same of the windows from a position on. -/

theorem windowsFrom_short (hlen : ¬ c + 32 ≤ stream.length) : windowsFrom stream c = [] :=
  syncRefLoop_short _ hlen

theorem windowsFrom_window (hlen : c + 32 ≤ stream.length) (h : HeaderAt stream c) :
    windowsFrom stream c = (c, validate (windowAt stream c) 32) ::
      windowsFrom stream (if validate (windowAt stream c) 32 = .ok then c + 32 else c + 1) := by
  have hnext := le_next_position c (validate (windowAt stream c) 32)
  rw [← syncRefLoop_eq_windowsFrom (n := stream.length + 1) (by omega), syncRefLoop_window _ hlen h,
    syncRefLoop_eq_windowsFrom (by omega)]

theorem windowsFrom_skip (h : ¬ HeaderAt stream c) : windowsFrom stream c = windowsFrom stream (c + 1) := by
  by_cases hlen : c + 32 ≤ stream.length
  · rw [← syncRefLoop_eq_windowsFrom (n := stream.length + 1) (by omega), syncRefLoop_skip _ hlen h,
      syncRefLoop_eq_windowsFrom (by omega)]
  · rw [windowsFrom_short hlen, windowsFrom_short (by omega)]

theorem windowsFrom_skip_many {d : Nat} (h : ∀ e < d, ¬ HeaderAt stream (c + e)) :
    windowsFrom stream c = windowsFrom stream (c + d) := by
  induction d with
  | zero => rfl
  | succ d ih => rw [ih fun e he => h e (by omega), windowsFrom_skip (h d (by omega)), Nat.add_assoc]

theorem byteAt_windowAt (stream : List Byte) (c : Nat) {k : Nat} (hk : k < 32) :
    (windowAt stream c).byteAt k = stream.getD (c + k) 0 := by
  rw [Buf.byteAt_of_lt _ hk]
  simp [windowAt]

/-- A valid window starts with the header (41_checksum_validator.md R81). -/
theorem headerAt_of_valid (h : validate (windowAt stream c) 32 = .ok) : HeaderAt stream c := by
  obtain ⟨-, h0, h1, -⟩ := (validate_ok_iff _ _).mp h
  rw [← Buf.byteAt_of_lt _ (by omega), byteAt_windowAt _ _ (by omega)] at h0 h1
  exact ⟨h0, h1⟩

/-- Feeding a stream from its byte `m` on is pushing that byte and then feeding the rest. -/
theorem feedStream_drop {m : Nat} {s t u : State} {windows : List (Word32 × ResultCode)}
    (hm : m < stream.length) (hexec : exec (.spush (stream.getD m 0)) s = .next t)
    (hrest : feedStream (stream.drop (m + 1)) t = some (u, windows)) :
    feedStream (stream.drop m) s = some (u, t.windowReported ++ windows) := by
  rw [List.getD_eq_getElem _ _ hm] at hexec
  rw [List.drop_eq_getElem_cons hm, feedStream, hexec]
  simp only [hrest, Option.map_some]

end Sys2Proof.Machine
end

/-! ### The synchronizer refines `sync_ref` (44_synchronizer.md R140) -/

section
namespace Sys2Proof.Machine

variable {stream : List Byte} {c : Nat} {s t : State}

/-- SB[0] is at position `c` of the stream: the sync buffer holds the bytes pushed from there on, and SPOS
counts them all (R140, 10_state.md R26). -/
structure State.Scans (stream : List Byte) (c : Nat) (s : State) : Prop where
  inv : s.SyncInv
  opened : s.eof = false
  spos : s.spos = BitVec.ofNat 32 (c + s.sbLen)
  bytes : ∀ k < s.sbLen, s.sb.byteAt k = stream.getD (c + k) 0

theorem State.StreamStart.scans (h : s.StreamStart) (stream : List Byte) : s.Scans stream 0 := by
  obtain ⟨hsb, hlen, hspos, heof, -⟩ := h
  exact ⟨State.syncInv_of_empty hlen hsb, heof, by rw [hspos, hlen]; rfl, by omega⟩

/-- A push moves the start of the buffer to wherever the bytes that are left in it come from. -/
theorem State.Scans.push (h : s.Scans stream c) {b : Byte} (hexec : exec (.spush b) s = .next t) {c' : Nat}
    (hpos : c' + t.sbLen = c + s.sbLen + 1)
    (hbytes : ∀ k < t.sbLen, t.sb.byteAt k = stream.getD (c' + k) 0) : t.Scans stream c' := by
  have hinv : t.SyncInv := (effect_of_exec hexec).syncInv h.inv
  rw [exec_spush_of_open h.opened] at hexec
  obtain ⟨hspos, heof, -⟩ := received_settle_frame b s
  cases hexec
  refine ⟨hinv, heof.trans h.opened, ?_, hbytes⟩
  rw [hpos, State.respond_spos, hspos, h.spos, BitVec.ofNat_add (c + s.sbLen) 1]
  rfl

/-- The received byte is the stream's next one. -/
theorem State.Scans.bytes_received (h : s.Scans stream c) : ∀ k < s.sbLen + 1,
    (s.received (stream.getD (c + s.sbLen) 0)).sb.byteAt k = stream.getD (c + k) 0 := by
  intro k hk
  rw [h.inv.byteAt_received]
  split
  next hlast => rw [hlast]
  next => exact h.bytes k (by omega)

/-- The full buffer is the stream's window. -/
theorem State.Scans.window (h : s.Scans stream c) (hlen : s.sbLen = 31) :
    s.sb.set 31 (stream.getD (c + s.sbLen) 0) = windowAt stream c := by
  rw [← State.received_sb_full s _ hlen]
  refine Buf.ext_byteAt fun k => ?_
  rcases Nat.lt_or_ge k 32 with hk | hk
  · rw [h.bytes_received k (by omega), byteAt_windowAt _ _ hk]
  · rw [Buf.byteAt_of_ge _ hk, Buf.byteAt_of_ge _ hk]

theorem State.Scans.headerAt (h : s.Scans stream c) (hlen : 2 ≤ s.sbLen) : HeaderAt stream c :=
  ⟨(h.bytes 0 (by omega)).symm.trans (h.inv.first (by omega)),
    (h.bytes 1 (by omega)).symm.trans (h.inv.second hlen)⟩

/-- A byte of the buffer that cannot start a frame has no header in the stream. -/
theorem not_headerAt_of_not_canStart {v : Buf} {n e : Nat}
    (hbytes : ∀ k < n, v.byteAt k = stream.getD (c + k) 0) (he : e < n) (h : ¬ CanStart v n e) :
    ¬ HeaderAt stream (c + e) := by
  rintro ⟨h0, h1⟩
  refine h ⟨(hbytes e he).trans h0, ?_⟩
  by_cases hlast : e + 1 = n
  · exact .inl hlast
  · exact .inr ((hbytes (e + 1) (by omega)).trans h1)

/-- A push that does not fill the window passes only positions without the header. -/
theorem State.Scans.keep (h : s.Scans stream c) (hlen : s.sbLen < 31) : ∃ (v : Buf) (d : Nat),
    exec (.spush (stream.getD (c + s.sbLen) 0)) s = .next (s.afterKeep v d) ∧ d ≤ s.sbLen + 1 ∧
    (s.afterKeep v d).Scans stream (c + d) ∧ ∀ e < d, ¬ HeaderAt stream (c + e) := by
  have hbytes := h.bytes_received
  obtain ⟨d, hd⟩ := exists_firstStart (s.received (stream.getD (c + s.sbLen) 0)).sb (s.sbLen + 1)
  have hexec := exec_spush_keep h.inv h.opened hlen hd
  obtain ⟨hle, -, hfirst⟩ := hd
  refine ⟨_, d, hexec, hle, h.push hexec ?_ fun k hk => ?_,
    fun e he => not_headerAt_of_not_canStart hbytes (by omega) (hfirst e he)⟩
  · rw [State.afterKeep_sbLen]
    omega
  · rw [State.afterKeep_sbLen] at hk
    rw [State.afterKeep_sb, Buf.byteAt_shiftDown_iterate, hbytes _ (by omega), Nat.add_assoc, Nat.add_comm d k]

/-! What each kind of push reports (R143). -/

theorem State.windowReported_afterKeep (v : Buf) (d : Nat) (s : State) :
    (s.afterKeep v d).windowReported = [] := rfl

theorem State.windowReported_afterReject (v : Buf) (d : Nat) (base : Word32) (r : ResultCode) (s : State) :
    (s.afterReject v d base r).windowReported = [(base, r)] := by
  have hword : (rejectEvent r).word ≠ 0 := by
    rw [rejectEvent_word]; split <;> decide
  exact if_neg hword

theorem State.windowReported_afterAccept (w : Buf) (base lost : Word32) (s : State) :
    (s.afterAccept w base lost).windowReported = [(base, .ok)] := by
  by_cases h : lost = 0#32
  · simp [State.windowReported, State.afterAccept, h]
  · simp [State.windowReported, State.afterAccept, h]

/-- The offset of a full window is its position in the stream, modulo 2^32 (10_state.md R26). -/
theorem State.Scans.spos_sub (h : s.Scans stream c) (hlen : s.sbLen = 31) :
    s.spos - 31 = BitVec.ofNat 32 c := by
  rw [h.spos, hlen, BitVec.ofNat_add]
  exact BitVec.add_sub_cancel _ _

/-- A push that completes a valid window of the stream accepts it. -/
theorem State.Scans.accept (h : s.Scans stream c) (hlen : s.sbLen = 31)
    (hv : validate (windowAt stream c) 32 = .ok) :
    exec (.spush (stream.getD (c + s.sbLen) 0)) s =
        .next (s.afterAccept (windowAt stream c) (BitVec.ofNat 32 c) s.disc) ∧
      (s.afterAccept (windowAt stream c) (BitVec.ofNat 32 c) s.disc).Scans stream (c + 32) := by
  have hexec : exec (.spush (stream.getD (c + s.sbLen) 0)) s =
      .next (s.afterAccept (windowAt stream c) (BitVec.ofNat 32 c) s.disc) := by
    rw [← h.window hlen] at hv
    rw [exec_spush_accept h.inv h.opened hlen hv, h.window hlen, h.spos_sub hlen]
  refine ⟨hexec, h.push hexec ?_ fun k hk => absurd hk (Nat.not_lt_zero k)⟩
  rw [State.afterAccept_sbLen]
  omega

/-- A push that completes a bad window of the stream rejects it, and passes only positions without the header
after its first. -/
theorem State.Scans.reject (h : s.Scans stream c) (hlen : s.sbLen = 31)
    (hv : validate (windowAt stream c) 32 ≠ .ok) : ∃ (v : Buf) (d : Nat),
    let t := s.afterReject v (d + 1) (BitVec.ofNat 32 c) (validate (windowAt stream c) 32)
    exec (.spush (stream.getD (c + s.sbLen) 0)) s = .next t ∧ d ≤ 31 ∧ t.Scans stream (c + 1 + d) ∧
      ∀ e < d, ¬ HeaderAt stream (c + 1 + e) := by
  have hwindow := h.window hlen
  obtain ⟨d, hd⟩ := exists_firstStart (windowAt stream c).shiftDown 31
  have hexec := exec_spush_reject h.inv h.opened hlen (by rwa [hwindow]) (by rwa [hwindow])
  obtain ⟨hle, -, hfirst⟩ := hd
  rw [hwindow, h.spos_sub hlen] at hexec
  refine ⟨_, d, hexec, hle, h.push hexec ?_ fun k hk => ?_, fun e he => ?_⟩
  · rw [State.afterReject_sbLen]
    omega
  · rw [State.afterReject_sbLen] at hk
    rw [State.afterReject_sb, Buf.byteAt_shiftDown_iterate, byteAt_windowAt _ _ (by omega)]
    congr 1; omega
  · refine not_headerAt_of_not_canStart (n := 31) (fun k hk => ?_) (by omega) (hfirst e he)
    rw [Buf.byteAt_shiftDown, byteAt_windowAt _ _ (by omega)]
    congr 1; omega

/-- A window of the reference, with its offset as the synchronizer counts it (10_state.md R26). -/
def stamped (w : Nat × ResultCode) : Word32 × ResultCode := (BitVec.ofNat 32 w.1, w.2)

/-- One push against the reference: what it reports are the windows that the reference evaluates between the
old start of the buffer and the new one. -/
theorem State.Scans.push_refines (h : s.Scans stream c) (hlt : c + s.sbLen < stream.length) :
    ∃ (t : State) (c' : Nat), exec (.spush (stream.getD (c + s.sbLen) 0)) s = .next t ∧
      t.Scans stream c' ∧ c' + t.sbLen = c + s.sbLen + 1 ∧
      (windowsFrom stream c).map stamped = t.windowReported ++ (windowsFrom stream c').map stamped := by
  rcases Nat.lt_or_eq_of_le h.inv.1 with hlen | hlen
  · obtain ⟨v, d, hexec, hd, ht, hskip⟩ := h.keep hlen
    refine ⟨_, _, hexec, ht, by rw [State.afterKeep_sbLen]; omega, ?_⟩
    rw [windowsFrom_skip_many hskip, State.windowReported_afterKeep, List.nil_append]
  rw [windowsFrom_window (by omega) (h.headerAt (by omega)), List.map_cons]
  by_cases hv : validate (windowAt stream c) 32 = .ok
  · obtain ⟨hexec, ht⟩ := h.accept hlen hv
    refine ⟨_, _, hexec, ht, by rw [State.afterAccept_sbLen]; omega, ?_⟩
    rw [hv, if_pos rfl, State.windowReported_afterAccept, List.singleton_append, stamped]
  · obtain ⟨v, d, hexec, hd, ht, hskip⟩ := h.reject hlen hv
    refine ⟨_, _, hexec, ht, by rw [State.afterReject_sbLen]; omega, ?_⟩
    rw [if_neg hv, windowsFrom_skip_many hskip, State.windowReported_afterReject, List.singleton_append,
      stamped]

/-- From a buffer that starts at position `c`, the rest of the stream yields the windows of the reference
from `c` on, by induction on the `n` bytes still to push. -/
theorem State.Scans.feed (n : Nat) (h : s.Scans stream c) (hn : c + s.sbLen + n = stream.length) :
    ∃ t, feedStream (stream.drop (c + s.sbLen)) s = some (t, (windowsFrom stream c).map stamped) := by
  induction n generalizing c s with
  | zero =>
    have hle : s.sbLen ≤ 31 := h.inv.1
    rw [List.drop_eq_nil_of_le (by omega), windowsFrom_short (by omega)]
    exact ⟨s, rfl⟩
  | succ n ih =>
    obtain ⟨t, c', hexec, ht, hpos, hwindows⟩ := h.push_refines (by omega)
    obtain ⟨u, hu⟩ := ih ht (by omega)
    rw [hpos] at hu
    exact ⟨u, hwindows ▸ feedStream_drop (by omega) hexec hu⟩

/-- Settles O41: at a stream's start the buffer starts at position 0. -/
theorem windowsEvaluatedAreThoseOfSyncRef : Obligations.WindowsEvaluatedAreThoseOfSyncRef := by
  intro stream s hs
  have hlen : s.sbLen = 0 := hs.2.1
  obtain ⟨t, ht⟩ := (hs.scans stream).feed stream.length (by omega)
  rw [hlen] at ht
  exact ⟨t, _, ht, by rw [syncRef_eq]; rfl⟩

end Sys2Proof.Machine
end

/-! ### Frames with garbage between them (44_synchronizer.md R151) -/

section
namespace Sys2Proof.Machine

variable {stream : List Byte} {c : Nat} {s : State}

/-- Up to the next frame of the stream, at position `c'`, every push only gives up bytes, and the one that
completes the frame accepts it; by induction on the `n` bytes to push. -/
theorem State.Scans.feed_frame {c' n : Nat} {u : State} {windows : List (Word32 × ResultCode)}
    (h : s.Scans stream c) (hn : c + s.sbLen + n = c' + 32) (hc : c ≤ c') (hc' : c' + 32 ≤ stream.length)
    (hgap : ∀ e, c ≤ e → e < c' → ¬ HeaderAt stream e) (hv : validate (windowAt stream c') 32 = .ok)
    (hrest : feedStream (stream.drop (c' + 32)) (s.afterAccept (windowAt stream c') (BitVec.ofNat 32 c')
      (s.disc + BitVec.ofNat 32 (c' - c))) = some (u, windows)) :
    feedStream (stream.drop (c + s.sbLen)) s = some (u, (BitVec.ofNat 32 c', .ok) :: windows) := by
  have hle : s.sbLen ≤ 31 := h.inv.1
  induction n generalizing c s with
  | zero => omega
  | succ n ih =>
    rcases Nat.lt_or_eq_of_le hle with hlen | hlen
    · obtain ⟨v, d, hexec, hd, ht, hskip⟩ := h.keep hlen
      have hdc : c + d ≤ c' := by
        by_contra hover
        have hnot := hskip (c' - c) (by omega)
        rw [show c + (c' - c) = c' by omega] at hnot
        exact hnot (headerAt_of_valid hv)
      have hpos : c + d + (s.afterKeep v d).sbLen = c + s.sbLen + 1 := by
        rw [State.afterKeep_sbLen]; omega
      have hlost : (s.afterKeep v d).disc + BitVec.ofNat 32 (c' - (c + d)) =
          s.disc + BitVec.ofNat 32 (c' - c) := by
        rw [State.afterKeep, BitVec.add_assoc, ← BitVec.ofNat_add, show d + (c' - (c + d)) = c' - c by omega]
      have hfeed := ih ht (by omega) hdc (fun e he => hgap e (by omega)) (by rw [hlost]; exact hrest) ht.inv.1
      rw [hpos] at hfeed
      exact feedStream_drop (by omega) hexec hfeed
    · obtain rfl : c = c' := by
        by_contra hne
        exact hgap c le_rfl (by omega) (h.headerAt (by omega))
      obtain ⟨hexec, -⟩ := h.accept hlen hv
      have hfeed := feedStream_drop (u := u) (windows := windows) (by omega) hexec
        (by simpa [hlen] using hrest)
      rwa [State.windowReported_afterAccept] at hfeed

/-- After an accepted frame the buffer starts, empty, at the position after it. -/
theorem State.scans_afterAccept (opened : s.eof = false) (w : Buf) (lost : Word32) :
    (s.afterAccept w (BitVec.ofNat 32 c) lost).Scans stream (c + 32) :=
  ⟨State.syncInv_of_empty rfl rfl, opened, (BitVec.ofNat_add c 32).symm,
    fun k hk => absurd hk (Nat.not_lt_zero k)⟩

/-- A frame's bytes inside a stream are its window. -/
theorem windowAt_append (before after : List Byte) (f : Buf) :
    windowAt (before ++ (f.toList ++ after)) before.length = f := by
  refine Buf.ext_byteAt fun k => ?_
  rcases Nat.lt_or_ge k 32 with hk | hk
  · rw [byteAt_windowAt _ _ hk, List.getD_append_right _ _ _ _ (by omega), Nat.add_sub_cancel_left,
      List.getD_append _ _ _ _ (by simpa using hk), Buf.byteAt]
  · rw [Buf.byteAt_of_ge _ hk, Buf.byteAt_of_ge _ hk]

/-- Garbage without the header, before a byte that starts one, holds the header nowhere, not even across its
end. -/
theorem not_headerAt_garbage {before garbage after : List Byte}
    (hpair : ∀ k, k + 1 < garbage.length → ¬ (garbage.getD k 0 = sync0 ∧ garbage.getD (k + 1) 0 = sync1))
    (hafter : after.getD 0 0 = sync0) {j : Nat} (hj : j < garbage.length) :
    ¬ HeaderAt (before ++ (garbage ++ after)) (before.length + j) := by
  rintro ⟨h0, h1⟩
  rw [List.getD_append_right _ _ _ _ (by omega), Nat.add_sub_cancel_left, List.getD_append _ _ _ _ hj] at h0
  rw [Nat.add_assoc, List.getD_append_right _ _ _ _ (by omega), Nat.add_sub_cancel_left] at h1
  by_cases hlast : j + 1 < garbage.length
  · rw [List.getD_append _ _ _ _ hlast] at h1
    exact hpair j hlast ⟨h0, h1⟩
  · rw [List.getD_append_right _ _ _ _ (by omega), show j + 1 - garbage.length = 0 by omega, hafter] at h1
    exact absurd h1 (by decide)

/-- Settles O42: the first frame is the window at 0; no position of the gap holds the header, so the second
frame is the next window, 5 bytes after the first. -/
theorem garbageBetweenFramesIsOneResync : Obligations.GarbageBetweenFramesIsOneResync := by
  intro s f g garbage hs hf hg hlen hpair
  rw [List.append_assoc]
  have hstart := hs.scans (f.toList ++ (garbage ++ g.toList))
  obtain ⟨-, hempty, -, opened, hdisc, hnfrm, hnrej, hnrsy⟩ := hs
  have hwf : windowAt (f.toList ++ (garbage ++ g.toList)) 0 = f := windowAt_append [] (garbage ++ g.toList) f
  have hwg : windowAt (f.toList ++ (garbage ++ g.toList)) 37 = g := by
    simpa [hlen] using windowAt_append (f.toList ++ garbage) [] g
  obtain ⟨-, hsync, -⟩ := (validate_ok_iff g 32).mp hg
  have hheader : g.toList.getD 0 0 = sync0 := (Buf.byteAt_of_lt g (by omega)).trans hsync
  have hgap (e : Nat) (he : 32 ≤ e) (he' : e < 37) :
      ¬ HeaderAt (f.toList ++ (garbage ++ g.toList)) e := by
    obtain ⟨j, rfl⟩ := Nat.exists_eq_add_of_le he
    have hnone := not_headerAt_garbage (before := f.toList) (fun k hk => hpair k (by omega)) hheader
      (show j < garbage.length by omega)
    rwa [Vector.length_toList] at hnone
  have hlength : (f.toList ++ (garbage ++ g.toList)).length = 69 := by simp [hlen]
  generalize f.toList ++ (garbage ++ g.toList) = stream at *
  have hend (t : State) : feedStream (stream.drop (37 + 32)) t = some (t, []) := by
    rw [List.drop_eq_nil_of_le (by omega), feedStream]
  have hsecond := (State.scans_afterAccept (stream := stream) (c := 0) opened f s.disc).feed_frame (c' := 37)
    (n := 37) rfl (by omega) (by omega) hgap (by rwa [hwg]) (hend _)
  have hfirst := hstart.feed_frame (c' := 0) (n := 32) (by rw [hempty]) le_rfl (by omega)
    (fun e _ he => absurd he (Nat.not_lt_zero e)) (by rwa [hwf]) (by simpa [hwf] using hsecond)
  rw [hempty] at hfirst
  refine ⟨_, _, hfirst, rfl, ?_⟩
  simp [State.afterAccept, hwg, hdisc, hnfrm, hnrej, hnrsy, SyncEvent.word_accepted]

end Sys2Proof.Machine
end

/-! ### NOP and CLRSTK (45_control.md R160, R162) -/

section
namespace Sys2Proof.Machine

/-- NOP answers OK with data 0 and does nothing else (R160). -/
theorem exec_nop (s : State) : exec .nop s = .next { s with rspCode := .ok, rspData := 0 } := by
  rw [exec, execNop, State.finish_ok, State.respond_ok]

/-- CLRSTK zeroes STICKY, and its own OK response sets no bit of it again (R162, R182). -/
theorem exec_clrstk (s : State) :
    exec .clrstk s = .next { s with sticky := 0, rspCode := .ok, rspData := 0 } := by
  rw [exec, execClrstk, State.finish_ok, State.respond_ok, State.clearSticky]

/-- Settles O12: an OK response writes the response port and no bit of STICKY. -/
theorem nopAndClrstkWriteOnlyTheResponseAndSticky :
    Obligations.NopAndClrstkWriteOnlyTheResponseAndSticky :=
  ⟨exec_nop, exec_clrstk⟩

end Sys2Proof.Machine
end

/-! ### The block never stops (60_exceptions.md R181, R184) -/

section
namespace Sys2Proof.Machine

/-- Every word at the port ends in a next state, an illegal word's too (30_encoding.md R66). -/
theorem State.issue_next (w : CmdWord) (s : State) : ∃ t, s.issue w = .next t := by
  obtain ⟨f, hf, -⟩ := issue_ignoresHostSide w
  exact ⟨f s, hf s⟩

/-- Every input at the head of the port, and an idle port, lets the block take its step. -/
theorem step_next (s : State) : ∃ t, step s = .next t := by
  rw [step, State.takeInput]
  split
  next => exact ⟨s, rfl⟩
  next w rest _ =>
    rw [State.offer]
    split
    · exact ⟨_, rfl⟩
    · exact State.issue_next w _
  next => exact ⟨_, rfl⟩
  next => exact ⟨_, rfl⟩

/-- Settles O11, by induction on the length of the run: each of its steps ends in a next state. -/
theorem theBlockNeverStops : Obligations.TheBlockNeverStops := by
  intro s k
  induction k generalizing s with
  | zero => exact ⟨s, rfl⟩
  | succ k ih =>
    obtain ⟨t, ht⟩ := step_next s
    rw [run_succ_of_step ht]
    exact ih t

end Sys2Proof.Machine
end

/-! ### The instances of a platform (60_exceptions.md R191) -/

section
namespace Sys2Proof.Machine

variable {n : Nat}

/-- A step of one of the machines replaces its own state and no other. -/
theorem platformStep_of_step {k : Fin n} {p : Platform n} {t : State} (h : step p[k] = .next t) :
    platformStep k p = .next (p.set k t) := by
  rw [platformStep, h]

/-- The platform's run goes on from the platform in which the first machine of the order has taken its step. -/
theorem platformRun_cons_of_step {k : Fin n} {p : Platform n} {t : State} (h : step p[k] = .next t)
    (order : List (Fin n)) : platformRun (k :: order) p = platformRun order (p.set k t) := by
  rw [platformRun, platformStep_of_step h]

/-- What machine `j` does alone, when machine `k` steps first in the interleaving: its own step where it is `k`,
nothing otherwise. -/
theorem run_count_cons_of_step {k : Fin n} {p : Platform n} {t : State} (h : step p[k] = .next t)
    (order : List (Fin n)) (j : Fin n) :
    Sys2Proof.core.run ((k :: order).count j) p[j] = Sys2Proof.core.run (order.count j) (p.set k t)[j] := by
  by_cases hj : k = j
  · subst hj
    rw [List.count_cons_self, run_succ_of_step h, Fin.getElem_fin, Vector.getElem_set_self]
  · rw [List.count_cons_of_ne hj, Fin.getElem_fin, Fin.getElem_fin,
      Vector.getElem_set_ne k.isLt j.isLt (Fin.val_ne_of_ne hj)]

/-- Settles O58, by induction on the interleaving: its first step is that of one machine alone. -/
theorem platformInstancesAreIndependent : Obligations.PlatformInstancesAreIndependent := by
  intro n order
  induction order with
  | nil => exact fun p => ⟨p, rfl, fun _ => rfl⟩
  | cons k order ih =>
    intro p
    obtain ⟨t, ht⟩ := step_next p[k]
    obtain ⟨q, hq, alone⟩ := ih (p.set k t)
    refine ⟨q, (platformRun_cons_of_step ht order).trans hq, fun j => ?_⟩
    exact (run_count_cons_of_step ht order j).trans (alone j)

end Sys2Proof.Machine
end

/-! ### Commands that fail, and STICKY (60_exceptions.md R182, R183) -/

section
namespace Sys2Proof.Machine

variable {s t : State} {i : Instr}

/-- A failing command, if not an SPUSH to an open stream, answers its code with data 0, and VALID is all that
it writes beside, if it is DECODE. -/
theorem Effect.eq_respond_of_fails (h : Effect s i t) (fails : t.rspCode ≠ .ok)
    (ended : ∀ b, i = .spush b → s.eof = true) :
    t = (s.setValid (if i = .decode then false else s.valid)).respond t.rspCode 0 := by
  cases h with
  | spush b opened => exact absurd opened (by simp [ended b rfl])
  | decodeFails => rfl
  | spushEnded => rfl
  | wscaledOutOfRange => rfl
  | badSelect selects =>
    obtain ⟨-, hdecode, -⟩ := Instr.ne_of_selects selects
    rw [if_neg hdecode]
    rfl
  | _ => exact absurd rfl fails

/-- So does a failing command word, legal or not. -/
theorem State.issue_eq_respond_of_fails {w : CmdWord} (hissue : s.issue w = .next t) (fails : t.rspCode ≠ .ok)
    (ended : ∀ b, decode w = .command (.spush b) → s.eof = true) :
    t = (s.setValid (if decode w = .command .decode then false else s.valid)).respond t.rspCode 0 := by
  cases hd : decode w with
  | command i =>
    rw [State.issue_of_decode hd] at hissue
    simpa using (effect_of_exec hissue).eq_respond_of_fails fails fun b hb => ended b (hb ▸ hd)
  | illegal e =>
    rw [State.issue_of_illegal hd] at hissue
    cases hissue
    rfl

/-- SPUSH to an open stream fails only by rejecting the window that its byte completes. -/
theorem spush_fails_rejects {b : Byte} (hs : s.SyncInv) (opened : s.eof = false)
    (hexec : exec (.spush b) s = .next t) (fails : t.rspCode ≠ .ok) :
    t.spos = s.spos + 1 ∧ t.nrej = s.nrej + 1 ∧ t.lsoff = s.spos - 31 := by
  rw [exec_spush_of_open opened] at hexec
  cases hexec
  rcases settle_cases (s.received b) (State.SyncInv.received hs b).1 with
    ⟨u, -, e⟩ | ⟨-, -, e⟩ | ⟨hfull, -, u, ⟨v, m, d, rfl⟩, e⟩
  · simp [e] at fails
  · simp [e] at fails
  · have hbase : (s.received b).streamBase = s.spos - 31 := State.streamBase_received (by simpa using hfull) b
    simp [e, hbase]

/-- Settles O46: a failing word's next state is its response, and VALID cleared by DECODE; an SPUSH to an open
stream fails by a rejection. -/
theorem aFailingCommandChangesNothingElse : Obligations.AFailingCommandChangesNothingElse := by
  refine ⟨fun w s t hissue fails ended => ?_, fun b s t => spush_fails_rejects⟩
  rw [← stickyAfter_error fails]
  exact State.issue_eq_respond_of_fails hissue fails ended

/-- A response adds its own code to STICKY, whatever else the command wrote (R182). -/
theorem State.respond_accumulates {u : State} (hu : u.sticky = s.sticky) (c : ResultCode) (d : Word32) :
    (u.respond c d).sticky = stickyAfter (u.respond c d).rspCode s.sticky := by
  rw [State.respond_sticky, State.respond_rspCode, hu]

/-- A command other than CLEAR and CLRSTK accumulates: its one write of STICKY is its response. -/
theorem Effect.sticky_eq (h : Effect s i t) (hclear : i ≠ .clear) (hclrstk : i ≠ .clrstk) :
    t.sticky = stickyAfter t.rspCode s.sticky := by
  cases h with
  | clear => exact absurd rfl hclear
  | clrstk => exact absurd rfl hclrstk
  | spush b opened =>
    obtain ⟨-, -, -, -, -, -, -, hsticky, -⟩ := settle_sameOutside (s.received b)
    exact State.respond_accumulates hsticky _ _
  | _ => exact State.respond_accumulates (by simp) _ _

/-- Settles O47: responses accumulate the codes, CLEAR and CLRSTK answer OK over a zeroed STICKY, and a failing
command's response has data 0. -/
theorem stickyAccumulatesTheCodes : Obligations.StickyAccumulatesTheCodes := by
  intro i s t hexec
  have heffect := effect_of_exec hexec
  refine ⟨heffect.sticky_eq, ?_, fun fails hspush => ?_⟩
  · rintro (rfl | rfl)
    · cases hexec; exact ⟨rfl, rfl⟩
    · cases hexec; exact ⟨rfl, rfl⟩
  · rw [heffect.eq_respond_of_fails fails fun b hb => absurd hb (hspush b)]
    rfl

end Sys2Proof.Machine
end

/-! ### The reset input and the idle port (70_reset_and_hazards.md R200, 60_exceptions.md R187) -/

section
namespace Sys2Proof.Machine

variable {s : State} {rest : List HostEvent}

/-- An edge of the reset input forgets the block: what remains is reset, the new level and the inputs to come. -/
theorem State.setPending_resetElements_setResetHeld (held : Bool) (rest : List HostEvent) (s : State) :
    (s.setPending rest).resetElements.setResetHeld held =
      { State.reset with resetHeld := held, pending := rest } := rfl

/-- The block drops the word it is offered while reset is asserted (R200, 20_memory.md R53). -/
theorem State.offer_of_held (hr : s.resetHeld = true) (w : CmdWord) : s.offer w = .next s := by
  rw [State.offer, if_pos hr]

/-- With nothing pending a step changes nothing (R187). -/
theorem step_of_idle (hp : s.pending = []) : step s = .next s := by
  rw [step, State.takeInput, hp]

/-- Asserting reset, from either level, sets every element to its reset value (log entry 2). -/
theorem step_of_resetAsserted (hp : s.pending = .resetAsserted :: rest) :
    step s = .next { State.reset with resetHeld := true, pending := rest } :=
  calc step s = .next ((s.setPending rest).resetElements.setResetHeld true) := by
        rw [step, State.takeInput, hp]
    _ = _ := by rw [State.setPending_resetElements_setResetHeld]

/-- Releasing an asserted reset leaves `State.reset`, whose reset input is released (R200). -/
theorem step_of_resetReleased_of_held (hr : s.resetHeld = true) (hp : s.pending = .resetReleased :: rest) :
    step s = .next { State.reset with pending := rest } :=
  calc step s = .next ((s.setPending rest).resetElements.setResetHeld false) := by
        simp only [step, State.takeInput, hp, if_pos hr]
    _ = .next { State.reset with resetHeld := false, pending := rest } := by
        rw [State.setPending_resetElements_setResetHeld]
    _ = .next { State.reset with pending := rest } := rfl

/-- While reset is asserted, a step takes the command word off the port and does nothing with it (R200). -/
theorem step_of_held_command {w : CmdWord} (hr : s.resetHeld = true) (hp : s.pending = .command w :: rest) :
    step s = .next (s.setPending rest) :=
  (step_of_pending_command hp).trans (State.offer_of_held (s := s.setPending rest) hr w)

/-- Settles O8: what a step does with each edge of the reset input, with a word while reset is asserted, and
with nothing. -/
theorem resetInputAndIdlePort : Obligations.ResetInputAndIdlePort :=
  ⟨fun _ _ => step_of_resetReleased_of_held, fun _ _ => step_of_resetAsserted,
    fun _ _ _ => step_of_held_command, fun _ => step_of_idle⟩

end Sys2Proof.Machine
end
